-- ==== Sys2Proof/Word.lean ====
section
/-! DEFINITION. The widths of the block (00_scope R8, R10): the bit-vector types every other file uses. -/

namespace Sys2Proof

/-- One byte on the data lines, or one byte of the Counter's latch (`DATA_WIDTH`, R8). -/
abbrev Byte := BitVec 8

/-- A bus address (`ADDR_WIDTH`, R8). -/
abbrev Addr := BitVec 16

/-- A 16-bit quantity: the Counter's fields (R35), the rate's image (R144), a response (R103). -/
abbrev Word16 := BitVec 16

/-- A request word (30_encoding R91). -/
abbrev ReqWord := BitVec 32

/-- One bit, `true` for 1 (R10 `bit`). -/
abbrev Bit := Bool

end Sys2Proof
end

