-- ==== Sys2Proof/Config.lean ====
section
/-! DEFINITION. The parameters of the block (00_scope R8) as plain data, the names that requests, wirings and banks
are made of, and the free values (92_eei_decisions: a draw is unconstrained). -/

namespace Sys2Proof

/-- The 18 recognised signal kinds, in the order of 30_encoding R95. -/
inductive SignalKind where
  | reset | irq | nmi | rdy | aec | ba | sp | cnt | tod | flag | loram | hiram | charen | va14 | va15 | game | exrom | dma
deriving DecidableEq, Repr

/-- A receiver of notifications (44_signals R221): an external chip, or an AndPort of the block. -/
inductive Receiver where
  | ext (e : Nat)
  | andPort (i : Nat)
deriving DecidableEq, Repr

/-- The identity of the requester of a bus access (30_encoding R94). -/
inductive View where
  | cpu | vic
deriving DecidableEq, Repr

/-- The two lines of a WireAnd (R196). -/
inductive WireLine where
  | one | two
deriving DecidableEq, Repr

/-- The lock-step choice (41_clock R147). -/
inductive Lockstep where
  | bestEffort | strict
deriving DecidableEq, Repr

/-- The timing profile of the clock (10_state R26). -/
inductive ClockKind where
  | pal | ntsc
deriving DecidableEq, Repr

/-- The wiring of one AndPort, fixed at construction (10_state R39, `AND_CFG[i]`). -/
structure AndCfg where
  kind1 : SignalKind
  kind2 : SignalKind
  kindOut : SignalKind
  target : Receiver
deriving DecidableEq, Repr

/-- A read handler (10_state R34): a storage device, the reference platform's `ROMX` (95_test_vectors section 1), or a
device of which only the page-read capability is known (20_memory R63). -/
inductive ReadHandler where
  | storage (d : Nat)
  | romx
  | ext (h : Nat)
deriving DecidableEq, Repr

/-- A write handler (10_state R34): a storage device, one that drops the byte (`NULLW`), or any other device. -/
inductive WriteHandler where
  | storage (d : Nat)
  | null
  | ext (h : Nat)
deriving DecidableEq, Repr

/-- A color-RAM reference (10_state R33): a storage device, the reference platform's `COL`, or any other device. -/
inductive ColorRef where
  | storage (d : Nat)
  | col
  | ext (c : Nat)
deriving DecidableEq, Repr

/-- A dispatch table (10_state R32, R34): 256 entries, one for each page, every one present. -/
structure PageTable (α : Type) where
  entries : List α
  size : entries.length = 256
deriving DecidableEq, Repr

/-- A read dispatch table (10_state R32, R34). -/
abbrev ReadTable := PageTable ReadHandler

/-- A write dispatch table (10_state R32, R34). -/
abbrev WriteTable := PageTable WriteHandler

/-- An entry of `TABLE_BANK`, tagged read or write (92_eei_decisions D16). -/
inductive BankTable where
  | read (t : ReadTable)
  | write (t : WriteTable)
deriving DecidableEq, Repr

/-- One call on a handler (00_scope R12). The calls made so far are all that a device outside the block can have
learnt from the block, so they stand for the platform's state `P` of 20_memory R63. -/
inductive Access where
  | read (h : ReadHandler) (addr : Addr)
  | write (h : WriteHandler) (addr : Addr) (v : Byte)
  | color (c : ColorRef) (addr : Addr)
deriving DecidableEq, Repr

/-- The parameters of the block (00_scope R8). `TOD_MID` is always `TOD_RELOAD / 2` (R9) and `N_AND` is the number of
wirings; a bank maps 8-bit ids to entries, an id it does not list names none. -/
structure Config where
  nAgents : Nat
  nCtr : Nat
  nFf : Nat
  nDff : Nat
  nWand : Nat
  andCfg : List AndCfg
  todReload : Nat
  clockKind : ClockKind
  lockstep : Lockstep
  tableBank : List (BitVec 8 × BankTable)
  colorBank : List (BitVec 8 × ColorRef)
  targetBank : List (BitVec 8 × List Receiver)
  busPrevInit : Byte
  ctrInit : Word16
  /-- The barrier's name, a label given at construction that nothing reads (10_state R25). DESIGN CHOICE (log 23): the
  spec gives the name no form; the model takes a natural number. -/
  barName : Nat
  /-- What the storage devices hold at construction (20_memory R63: the platform's own). -/
  storageInit : List Host.Cell
deriving DecidableEq, Repr

/-- FREE VALUE (log 10): the byte that a device outside the block returns to a page read, by the calls made before it,
the handler and the address. Nothing constrains it (20_memory R63, 93 U16). -/
opaque Config.pageReadDraw : List Access → Nat → Addr → Byte

/-- FREE VALUE (log 10): the byte that a color RAM outside the block returns (20_memory R63, R64). -/
opaque Config.colorReadDraw : List Access → Nat → Addr → Byte

/-- FREE VALUE (log 13): the draws written to `pending_reload`, numbered (43_logic_primitives R181, 93 U5). -/
opaque Config.pendingReloadDraw : Nat → Bit

end Sys2Proof
end

