-- ==== Sys2Proof/Syntax.lean ====
section
/-! DEFINITION. The 34 operations of the request port (30_encoding R96), one constructor per row of the opcode table,
with the operands of R92 at their exact widths. -/

namespace Sys2Proof

/-- A request, decoded (30_encoding R96, R101). The name of a constructor is the row's mnemonic; a dot starts a capital. -/
inductive Instr where
  -- the synchronization barrier (40_barrier)
  | announce (agent : BitVec 8)
  | wait (agent : BitVec 8)
  | release
  | allfin
  -- the clock (41_clock)
  | start
  | stop
  | tick
  | setrate (imm16 : Word16)
  | getrate
  | todreg (id : BitVec 8)
  -- the shared bus (42_bus)
  | store (addr : Addr) (value : Byte) (view : View) (aec : Bit)
  | load (addr : Addr) (view : View) (aec : Bit)
  | isinit
  | setcpu (idRd : BitVec 8) (idWr : BitVec 8)
  | setvic (id : BitVec 8)
  | setcolor (id : BitVec 8)
  -- the Counter (43_logic_primitives)
  | ctrWlo (inst : BitVec 8) (byte : Byte)
  | ctrWhi (inst : BitVec 8) (byte : Byte)
  | ctrDec (inst : BitVec 8) (on : Bit)
  | ctrClk (inst : BitVec 8)
  | ctrZero (inst : BitVec 8)
  | ctrRead (inst : BitVec 8)
  -- the FlipFlop
  | ffSet (inst : BitVec 8)
  | ffRst (inst : BitVec 8)
  | ffInv (inst : BitVec 8)
  | ffGet (inst : BitVec 8)
  -- the delay-clocked FlipFlop
  | dffSet (inst : BitVec 8)
  | dffRst (inst : BitVec 8)
  | dffInv (inst : BitVec 8)
  | dffClk (inst : BitVec 8)
  | dffGet (inst : BitVec 8)
  -- the AndPort and the WireAnd
  | andNotify (inst : BitVec 8) (kind : BitVec 5) (level : Bit)
  | wandSet (inst : BitVec 8) (line : WireLine) (level : Bit)
  | wandGet (inst : BitVec 8)
deriving DecidableEq, Repr

/-- Why a word is no request (30_encoding R98): it matches no row of the opcode map. -/
inductive DecodeError where
  | illegalRequest
deriving DecidableEq, Repr

end Sys2Proof
end

