-- ==== Sys2Proof/Decode.lean ====
section
/-! DEFINITION. The request encoding (30_encoding R90 to R104): the decoder, total on 32-bit words, and the encoder. -/

namespace Sys2Proof

/-! ## The fields of a word (R92, R93) -/

/-- Bits 31:26. -/
def opcField (w : ReqWord) : BitVec 6 := w.extractLsb' 26 6

/-- Bits 25:18, `agent` of format A and `inst` of the P formats. -/
def instField (w : ReqWord) : BitVec 8 := w.extractLsb' 18 8

/-- Bits 7:0, `id`, `id_wr` and `byte`. -/
def lowByteField (w : ReqWord) : BitVec 8 := w.extractLsb' 0 8

/-- Bits 15:8, `id_rd`. -/
def highByteField (w : ReqWord) : BitVec 8 := w.extractLsb' 8 8

/-- Bits 15:0, `addr` and `imm16`. -/
def halfField (w : ReqWord) : BitVec 16 := w.extractLsb' 0 16

/-- Bits 23:16, `value`. -/
def valueField (w : ReqWord) : BitVec 8 := w.extractLsb' 16 8

/-- Bits 12:8, `kind`. -/
def kindField (w : ReqWord) : BitVec 5 := w.extractLsb' 8 5

/-- One bit. -/
def bitField (w : ReqWord) (n : Nat) : Bit := w.getLsbD n

/-- Bit 25 as a view: 0 is the CPU view, 1 the VIC view (R94). -/
def viewField (w : ReqWord) : View := if bitField w 25 then .vic else .cpu

/-- Bit 8 as a WireAnd line: 0 is line 1, 1 is line 2 (R196). -/
def lineField (w : ReqWord) : WireLine := if bitField w 8 then .two else .one

/-- `len` bits from `lo` up are all zero (R91: a bit the format does not assign must be 0). -/
def zeroBits (w : ReqWord) (lo len : Nat) : Bool := w.extractLsb' lo len == 0#len

/-! ## The decoder -/

/-- A word whose must-be-zero bits are as `ok` says is the request `i`; otherwise it is illegal (R98). -/
def guarded (ok : Bool) (i : Instr) : Except DecodeError Instr := if ok then .ok i else .error .illegalRequest

/-- Format N: bits 25:0 zero. -/
def formatN (w : ReqWord) (i : Instr) : Except DecodeError Instr := guarded (zeroBits w 0 26) i

/-- Formats A and P0: `agent` or `inst`, bits 17:0 zero. -/
def formatP0 (w : ReqWord) (mk : BitVec 8 → Instr) : Except DecodeError Instr :=
  guarded (zeroBits w 0 18) (mk (instField w))

/-- Format L: `id`, bits 25:8 zero. -/
def formatL (w : ReqWord) (mk : BitVec 8 → Instr) : Except DecodeError Instr :=
  guarded (zeroBits w 8 18) (mk (lowByteField w))

/-- Format PB: `inst` and `byte`, bits 17:8 zero. -/
def formatPB (w : ReqWord) (mk : BitVec 8 → Byte → Instr) : Except DecodeError Instr :=
  guarded (zeroBits w 8 10) (mk (instField w) (lowByteField w))

/-- The row of R96 that an opcode picks, read from the rest of the word: every must-be-zero bit of its format is
checked, and an unassigned opcode is illegal (R98). -/
def decodeRow (opc : Nat) (w : ReqWord) : Except DecodeError Instr :=
  match opc with
  | 0x01 => formatP0 w .announce
  | 0x02 => formatP0 w .wait
  | 0x03 => formatN w .release
  | 0x04 => formatN w .allfin
  | 0x08 => formatN w .start
  | 0x09 => formatN w .stop
  | 0x0A => formatN w .tick
  | 0x0B => guarded (zeroBits w 16 10) (.setrate (halfField w))
  | 0x0C => formatN w .getrate
  | 0x0D => formatL w .todreg
  | 0x10 => .ok (.store (halfField w) (valueField w) (viewField w) (bitField w 24))
  | 0x11 => guarded (zeroBits w 16 8) (.load (halfField w) (viewField w) (bitField w 24))
  | 0x12 => formatN w .isinit
  | 0x13 => guarded (zeroBits w 16 10) (.setcpu (highByteField w) (lowByteField w))
  | 0x14 => formatL w .setvic
  | 0x15 => formatL w .setcolor
  | 0x18 => formatPB w .ctrWlo
  | 0x19 => formatPB w .ctrWhi
  | 0x1A => guarded (zeroBits w 1 17) (.ctrDec (instField w) (bitField w 0))
  | 0x1B => formatP0 w .ctrClk
  | 0x1C => formatP0 w .ctrZero
  | 0x1D => formatP0 w .ctrRead
  | 0x20 => formatP0 w .ffSet
  | 0x21 => formatP0 w .ffRst
  | 0x22 => formatP0 w .ffInv
  | 0x23 => formatP0 w .ffGet
  | 0x28 => formatP0 w .dffSet
  | 0x29 => formatP0 w .dffRst
  | 0x2A => formatP0 w .dffInv
  | 0x2B => formatP0 w .dffClk
  | 0x2C => formatP0 w .dffGet
  | 0x30 => guarded (zeroBits w 13 5 && zeroBits w 1 7) (.andNotify (instField w) (kindField w) (bitField w 0))
  | 0x38 => guarded (zeroBits w 9 9 && zeroBits w 1 7) (.wandSet (instField w) (lineField w) (bitField w 0))
  | 0x39 => formatP0 w .wandGet
  | _ => .error .illegalRequest

/-- The decoder (R96, R104), total on 32-bit words. It reads no state. -/
def decode (w : ReqWord) : Except DecodeError Instr := decodeRow (opcField w).toNat w

/-! ## The encoder -/

/-- A bit as a one-bit field. -/
def bit1 (b : Bit) : BitVec 1 := BitVec.ofBool b

/-- `view` as its bit (R94). -/
def viewBit : View → BitVec 1
  | .cpu => 0#1
  | .vic => 1#1

/-- `line` as its bit (R196). -/
def lineBit : WireLine → BitVec 1
  | .one => 0#1
  | .two => 1#1

/-- Format N (R92). -/
def wordN (opc : BitVec 6) : ReqWord := opc ++ 0#26

/-- Formats A and P0. -/
def wordP0 (opc : BitVec 6) (inst : BitVec 8) : ReqWord := opc ++ inst ++ 0#18

/-- Format PB. -/
def wordPB (opc : BitVec 6) (inst byte : BitVec 8) : ReqWord := opc ++ inst ++ 0#10 ++ byte

/-- Format L. -/
def wordL (opc : BitVec 6) (id : BitVec 8) : ReqWord := opc ++ 0#18 ++ id

/-- The word of a request (R92, R96). -/
def encode : Instr → ReqWord
  | .announce a => wordP0 0x01#6 a
  | .wait a => wordP0 0x02#6 a
  | .release => wordN 0x03#6
  | .allfin => wordN 0x04#6
  | .start => wordN 0x08#6
  | .stop => wordN 0x09#6
  | .tick => wordN 0x0A#6
  | .setrate imm => 0x0B#6 ++ 0#10 ++ imm
  | .getrate => wordN 0x0C#6
  | .todreg id => wordL 0x0D#6 id
  | .store addr value view aec => 0x10#6 ++ viewBit view ++ bit1 aec ++ value ++ addr
  | .load addr view aec => 0x11#6 ++ viewBit view ++ bit1 aec ++ 0#8 ++ addr
  | .isinit => wordN 0x12#6
  | .setcpu r w => 0x13#6 ++ 0#10 ++ r ++ w
  | .setvic id => wordL 0x14#6 id
  | .setcolor id => wordL 0x15#6 id
  | .ctrWlo i b => wordPB 0x18#6 i b
  | .ctrWhi i b => wordPB 0x19#6 i b
  | .ctrDec i on => 0x1A#6 ++ i ++ 0#17 ++ bit1 on
  | .ctrClk i => wordP0 0x1B#6 i
  | .ctrZero i => wordP0 0x1C#6 i
  | .ctrRead i => wordP0 0x1D#6 i
  | .ffSet i => wordP0 0x20#6 i
  | .ffRst i => wordP0 0x21#6 i
  | .ffInv i => wordP0 0x22#6 i
  | .ffGet i => wordP0 0x23#6 i
  | .dffSet i => wordP0 0x28#6 i
  | .dffRst i => wordP0 0x29#6 i
  | .dffInv i => wordP0 0x2A#6 i
  | .dffClk i => wordP0 0x2B#6 i
  | .dffGet i => wordP0 0x2C#6 i
  | .andNotify i kind level => 0x30#6 ++ i ++ 0#5 ++ kind ++ 0#7 ++ bit1 level
  | .wandSet i line level => 0x38#6 ++ i ++ 0#9 ++ lineBit line ++ 0#7 ++ bit1 level
  | .wandGet i => wordP0 0x39#6 i

/-! ## The opcode map as the spec prints it -/

/-- The rows of R96 as (mask, match), in the table's order. -/
def opcodeRows : List (ReqWord × ReqWord) :=
  [(0xFC03FFFF, 0x04000000), (0xFC03FFFF, 0x08000000), (0xFFFFFFFF, 0x0C000000), (0xFFFFFFFF, 0x10000000),
   (0xFFFFFFFF, 0x20000000), (0xFFFFFFFF, 0x24000000), (0xFFFFFFFF, 0x28000000), (0xFFFF0000, 0x2C000000),
   (0xFFFFFFFF, 0x30000000), (0xFFFFFF00, 0x34000000), (0xFC000000, 0x40000000), (0xFCFF0000, 0x44000000),
   (0xFFFFFFFF, 0x48000000), (0xFFFF0000, 0x4C000000), (0xFFFFFF00, 0x50000000), (0xFFFFFF00, 0x54000000),
   (0xFC03FF00, 0x60000000), (0xFC03FF00, 0x64000000), (0xFC03FFFE, 0x68000000), (0xFC03FFFF, 0x6C000000),
   (0xFC03FFFF, 0x70000000), (0xFC03FFFF, 0x74000000), (0xFC03FFFF, 0x80000000), (0xFC03FFFF, 0x84000000),
   (0xFC03FFFF, 0x88000000), (0xFC03FFFF, 0x8C000000), (0xFC03FFFF, 0xA0000000), (0xFC03FFFF, 0xA4000000),
   (0xFC03FFFF, 0xA8000000), (0xFC03FFFF, 0xAC000000), (0xFC03FFFF, 0xB0000000), (0xFC03E0FE, 0xC0000000),
   (0xFC03FEFE, 0xE0000000), (0xFC03FFFF, 0xE4000000)]

/-- The index in `opcodeRows` of an operation's row. -/
def rowIndex : Instr → Nat
  | .announce _ => 0 | .wait _ => 1 | .release => 2 | .allfin => 3
  | .start => 4 | .stop => 5 | .tick => 6 | .setrate _ => 7 | .getrate => 8 | .todreg _ => 9
  | .store _ _ _ _ => 10 | .load _ _ _ => 11 | .isinit => 12 | .setcpu _ _ => 13 | .setvic _ => 14 | .setcolor _ => 15
  | .ctrWlo _ _ => 16 | .ctrWhi _ _ => 17 | .ctrDec _ _ => 18 | .ctrClk _ => 19 | .ctrZero _ => 20 | .ctrRead _ => 21
  | .ffSet _ => 22 | .ffRst _ => 23 | .ffInv _ => 24 | .ffGet _ => 25
  | .dffSet _ => 26 | .dffRst _ => 27 | .dffInv _ => 28 | .dffClk _ => 29 | .dffGet _ => 30
  | .andNotify _ _ _ => 31 | .wandSet _ _ _ => 32 | .wandGet _ => 33

/-- A word matches the row `(mask, match)` (R96: "`(w & mask) = match`"). -/
def matchesRow (w : ReqWord) (row : ReqWord × ReqWord) : Bool := w &&& row.1 == row.2

/-! ## The host's question -/

/-- The word whose low `nbits` bits are those of `w`, every bit above them zero. -/
def tableWord (nbits w : Nat) : ReqWord := BitVec.ofNat 32 (w % 2 ^ nbits)

/-- The request the decoder reads from the low `nbits` bits of `w`; none where it refuses, or where a bit above the
32 of a request word is set (R91; log 22). -/
def decodeTableWord (nbits w : Nat) : Option Instr :=
  if w % 2 ^ nbits < 2 ^ 32 then (decode (tableWord nbits w)).toOption else none

end Sys2Proof
end

