-- ==== Sys2Proof/Machine/Params.lean ====
section
/-! DEFINITION. What the parameters say: bank entries by id (92_eei_decisions D16), the number of AndPorts, the midpoint of
the TOD period, and where a chain of AndPorts leads (44_signals R223). -/

namespace Sys2Proof

/-- `TABLE_BANK[id]`, if it is a read table (42_bus R164, R165). -/
def Config.readTable? (c : Config) (id : BitVec 8) : Option ReadTable :=
  match c.tableBank.lookup id with
  | some (.read t) => some t
  | _ => none

/-- `TABLE_BANK[id]`, if it is a write table (42_bus R164). -/
def Config.writeTable? (c : Config) (id : BitVec 8) : Option WriteTable :=
  match c.tableBank.lookup id with
  | some (.write t) => some t
  | _ => none

/-- `COLOR_BANK[id]` (42_bus R166). -/
def Config.colorRef? (c : Config) (id : BitVec 8) : Option ColorRef := c.colorBank.lookup id

/-- `TARGET_BANK[id]` (41_clock R146). -/
def Config.targetList? (c : Config) (id : BitVec 8) : Option (List Receiver) := c.targetBank.lookup id

/-- The number of AndPorts, `N_AND`: one wiring for each (00_scope R8). -/
def Config.nAnd (c : Config) : Nat := c.andCfg.length

/-- `TOD_MID` (00_scope R9). -/
def Config.todMid (c : Config) : Nat := c.todReload / 2

/-- Following the wiring from AndPort `i`, an external receiver is reached within `fuel` ports, and every port on the
way exists. -/
def chainEnds (cfg : List AndCfg) : Nat → Nat → Bool
  | 0, _ => false
  | fuel + 1, i =>
    match cfg[i]? with
    | none => false
    | some c =>
      match c.target with
      | .ext _ => true
      | .andPort j => chainEnds cfg fuel j

/-- The edge of the wiring graph that leaves AndPort `i`, if its target is an AndPort (44_signals R223). -/
def hop (cfg : List AndCfg) (i : Nat) : Option Nat :=
  match cfg[i]? with
  | none => none
  | some c =>
    match c.target with
    | .ext _ => none
    | .andPort j => some j

/-- `k` edges from AndPort `i`. -/
def hops (cfg : List AndCfg) : Nat → Nat → Option Nat
  | 0, i => some i
  | k + 1, i => (hop cfg i).bind (hops cfg k)

/-- A receiver the block can deliver to: an external one, or an AndPort it has (44_signals R221). -/
def Config.hasReceiver (c : Config) : Receiver → Bool
  | .ext _ => true
  | .andPort i => decide (i < c.nAnd)

/-- The wiring is acyclic and complete (44_signals R223): from every AndPort the chain of targets ends within `N_AND`
ports. -/
def Config.wiringOk (c : Config) : Bool :=
  (List.range c.nAnd).all (chainEnds c.andCfg c.nAnd)

end Sys2Proof
end

