-- ==== Sys2Proof/Machine/Memory.lean ====
section
/-! DEFINITION. The bytes of the platform's storage devices (20_memory R63, 92 D32): a list of (key, byte) pairs in one
canonical form, its read and its write. The block itself holds no memory. -/

namespace Sys2Proof.Machine

/-- The bytes of all storage devices, by key (`cellKey`): keys strictly rising, no byte equal to `unlistedByte`. -/
abbrev Memory := List Host.Cell

/-- What a storage byte that the list does not hold reads as: 95_test_vectors section 1, "all `0x00` at start" (log 11). -/
def unlistedByte : Byte := 0x00#8

/-- The key of the byte that storage device `d` holds at `addr`: each device has the whole 64 KB space (20_memory R60). -/
def cellKey (d : Nat) (addr : Addr) : Nat := d * 65536 + addr.toNat

/-- Canonical, with every key at least `lo`. -/
def Memory.wfFrom : Nat → Memory → Bool
  | _, [] => true
  | lo, (k, b) :: m => decide (lo ≤ k) && (b != unlistedByte) && Memory.wfFrom (k + 1) m

/-- The canonical form: keys strictly rising, and no entry equal to what an unlisted address reads as. -/
def Memory.wf (m : Memory) : Bool := Memory.wfFrom 0 m

/-- The byte at a key. -/
def Memory.read : Memory → Nat → Byte
  | [], _ => unlistedByte
  | (k, b) :: m, a => if k = a then b else Memory.read m a

/-- Put a byte at a key, keeping the canonical form. -/
def Memory.write : Memory → Nat → Byte → Memory
  | [], a, v => if v = unlistedByte then [] else [(a, v)]
  | (k, b) :: m, a, v =>
    if a < k then (if v = unlistedByte then (k, b) :: m else (a, v) :: (k, b) :: m)
    else if a = k then (if v = unlistedByte then m else (a, v) :: m)
    else (k, b) :: Memory.write m a v

end Sys2Proof.Machine
end

