-- ==== Sys2Proof/Machine/Reference.lean ====
section
/-! DEFINITION. The reference platform of 95_test_vectors section 1, as one value of the parameters. It is not part of the
hardware; it is the one complete configuration the spec writes down, and `State.reset` is built on it (log 2). -/

namespace Sys2Proof

/-- `n` pages from page `lo` go to `inside`, every other page to `outside`. -/
def pageList {α : Type} (lo n : Nat) (outside inside : α) : List α :=
  List.replicate lo outside ++ List.replicate n inside ++ List.replicate (256 - lo - n) outside

theorem pageList_length {α : Type} (lo n : Nat) (outside inside : α) (h : lo + n ≤ 256) :
    (pageList lo n outside inside).length = 256 := by
  simp only [pageList, List.length_append, List.length_replicate]
  omega

/-- The table that `pageList` lists: 256 entries, every one present (10_state R34). -/
def pageTable {α : Type} (lo n : Nat) (h : lo + n ≤ 256) (outside inside : α) : PageTable α :=
  ⟨pageList lo n outside inside, pageList_length lo n outside inside h⟩

/-- `TABLE_BANK` of the reference platform. -/
def referenceTables : List (BitVec 8 × BankTable) :=
  [(0#8, .read (pageTable 0xD0 0x10 (by decide) (.storage 0) (.storage 0))),
   (1#8, .write (pageTable 0xD0 0x10 (by decide) (.storage 0) (.storage 0))),
   (2#8, .read (pageTable 0xD0 0x10 (by decide) (.storage 0) .romx)),
   (3#8, .write (pageTable 0xD0 0x10 (by decide) (.storage 0) .null))]

/-- The reference platform: counts, banks and wiring of 95_test_vectors section 1, `LOCKSTEP = best_effort`, the TOD pair
160000 and 80000, `CLOCK_KIND = PAL`, `BUS_PREV_INIT = 0x00`, `CTR_INIT = 0x0000`. DESIGN CHOICE (log 23): that section
names no barrier (10_state R25), and `barName` 0 is the model's own. -/
def Config.reference : Config where
  nAgents := 2
  nCtr := 1
  nFf := 1
  nDff := 1
  nWand := 1
  andCfg := [⟨.tod, .cnt, .flag, .ext 0⟩, ⟨.irq, .nmi, .cnt, .andPort 0⟩]
  todReload := 160000
  clockKind := .pal
  lockstep := .bestEffort
  tableBank := referenceTables
  colorBank := [(0#8, .col)]
  targetBank := [(0#8, []), (1#8, [.ext 0]), (2#8, [.andPort 0, .ext 1]), (3#8, [.ext 0, .ext 1])]
  busPrevInit := 0x00#8
  ctrInit := 0x0000#16
  barName := 0
  storageInit := []

end Sys2Proof
end

