-- ==== Sys2Proof/Machine/State.lean ====
section
/-! DEFINITION. The whole state of the block (10_state R20), the platform behind it (20_memory R63), the request port
(30_encoding R90), the reasons a step can stop, and reset. Plain data throughout. -/

namespace Sys2Proof.Machine

/-- The synchronization barrier (R22 to R24). `blocked` is a set of agent numbers, kept strictly rising (log 15). -/
structure Barrier where
  expected : Nat
  pending : Nat
  blocked : List Nat
deriving DecidableEq, Repr

/-- The clock (R26 to R30). `rate` is the Q8.8 image of the coefficient: the value is `rate / 256` (log 14). -/
structure Clock where
  kind : ClockKind
  rate : Word16
  running : Bit
  tod : Nat
  targets : List Receiver
deriving DecidableEq, Repr

/-- The shared bus (R31 to R33): the latch, and the tables and the color reference, each absent until set. -/
structure Bus where
  prev : Byte
  cpuRd : Option ReadTable
  cpuWr : Option WriteTable
  vicRd : Option ReadTable
  color : Option ColorRef
deriving DecidableEq, Repr

/-- One Counter (R35). -/
structure Counter where
  counter : Word16
  latch : Word16
  decrementing : Bit
  pendingReload : Bit
deriving DecidableEq, Repr

/-- One FlipFlop (R37). -/
structure FlipFlop where
  state : Bit
deriving DecidableEq, Repr

/-- One delay-clocked FlipFlop (R38). -/
structure DelayFlipFlop where
  inputState : Bit
  outputState : Bit
deriving DecidableEq, Repr

/-- One AndPort (R39): the two slots. The wiring is a parameter, the output is not stored. -/
structure AndPort where
  in1 : Bit
  in2 : Bit
deriving DecidableEq, Repr

/-- One WireAnd (R40): the two lines. The output is not stored. -/
structure WireAnd where
  line1 : Bit
  line2 : Bit
deriving DecidableEq, Repr

/-- A notification delivered to an external receiver (R41). -/
structure Notification where
  receiver : Nat
  kind : SignalKind
  level : Bit
deriving DecidableEq, Repr

/-- The logged errors (60_exceptions R243); `logCode` gives the number. -/
inductive LogError where
  | andPortUnknownSignal
deriving DecidableEq, Repr

/-- An entry of the error log (60_exceptions R243): the error, the instance, the 5-bit kind code and the level received. -/
structure LogEntry where
  code : LogError
  port : Nat
  kind : BitVec 5
  level : Bit
deriving DecidableEq, Repr

/-- The faults (60_exceptions R241, R242). -/
inductive Fault where
  /-- Raised by LOAD and STORE, and by nothing else, on a bus whose tables and color reference are not all present
  (R241). It is recorded in `out.fault` and the block goes on (R250), so that it is a next state and never the outcome
  `.fault`: safe, since every statement about such a step sees the recorded fault. -/
  | busNotInitialized
deriving DecidableEq, Repr

/-- What `out.fault` records: the fault and the request word that raised it (R241). -/
structure FaultRecord where
  code : Fault
  word : ReqWord
deriving DecidableEq, Repr

/-- The refusals of the request port (60_exceptions R244): no step exists and no state changes. -/
inductive Refusal where
  /-- Raised by `step` for a word that matches no row of the opcode map (30_encoding R98). Safe: the spec's own. -/
  | illegalRequest
  /-- Raised by ANNOUNCE and WAIT for an agent number not below `N_AGENTS` (R99). Safe: the spec's own. -/
  | noSuchAgent
  /-- Raised by the operations on a logic primitive for an instance the block does not have (R99). Safe: the spec's own. -/
  | noSuchInstance
  /-- Raised by TODREG, SETCPU, SETVIC and SETCOLOR for an id that names no suitable bank entry (R99). Safe: the spec's
  own. -/
  | noSuchBankEntry
  /-- Raised by ANNOUNCE and WAIT that name, or that are presented by, an agent in `bar.blocked` (R99; log 5). Safe: the spec's own. -/
  | agentBlocked
  /-- Raised at construction for a configuration that is none of this block, and by a delivery that finds a wiring that
  does not end or a port that does not exist, which no constructed block has (44_signals R223; log 16). Safe: it stops. -/
  | badConfiguration
  /-- Raised in `exec`'s arm of an operation that has no meaning yet. Safe: it stops. -/
  | notModelled (mnemonic : String)
deriving DecidableEq, Repr

/-- The outputs (R41 to R43): they only grow, the fault is set once. -/
structure Outputs where
  notify : List Notification
  log : List LogEntry
  fault : Option FaultRecord
deriving DecidableEq, Repr

/-- The platform behind the bus (20_memory R63): the storage devices' bytes and the calls made on handlers, oldest
first, which stand for the state of every other device (log 10, log 11). -/
structure Platform where
  mem : Memory
  calls : List Access
deriving DecidableEq, Repr

/-- The agents (00_scope R7). -/
inductive Agent where
  | clock
  | host
  | chip (a : Nat)
deriving DecidableEq, Repr

/-- A request presented at the port (30_encoding R90): the word does not say which agent presents it. -/
structure Request where
  issuer : Agent
  word : ReqWord
deriving DecidableEq, Repr

/-- The request port, the model's own (log 4, log 7): the requests presented and not yet served, in the scheduler's
order; the issuer of the request last served; the response it was given (30_encoding R103), if any. -/
structure Port where
  requests : List Request
  issuer : Option Agent
  resp : Option Word16
deriving DecidableEq, Repr

/-- The machine. `cfg` holds the parameters, which nothing writes (R48; log 1); `draws` numbers the draws of
`pending_reload` (log 13); `port` and `draws` are the model's own, the rest is the spec's (R20). -/
structure State where
  cfg : Config
  bar : Barrier
  clk : Clock
  bus : Bus
  ctr : List Counter
  ff : List FlipFlop
  dff : List DelayFlipFlop
  andp : List AndPort
  wand : List WireAnd
  out : Outputs
  platform : Platform
  port : Port
  draws : Nat
deriving DecidableEq, Repr

/-- The state after reset of the block constructed with the parameters `c` (10_state R49, 70_reset R271). -/
def State.resetWith (c : Config) : State where
  cfg := c
  bar := ⟨0, 0, []⟩
  clk := ⟨c.clockKind, 0x0100#16, false, c.todReload, []⟩
  bus := ⟨c.busPrevInit, none, none, none, none⟩
  ctr := List.replicate c.nCtr ⟨c.ctrInit, 0xFFFF#16, false, false⟩
  ff := List.replicate c.nFf ⟨false⟩
  dff := List.replicate c.nDff ⟨false, false⟩
  andp := List.replicate c.andCfg.length ⟨true, true⟩
  wand := List.replicate c.nWand ⟨true, true⟩
  out := ⟨[], [], none⟩
  platform := ⟨c.storageInit, []⟩
  port := ⟨[], none, none⟩
  draws := 0

/-- The machine right after reset (R49), on the configuration the log names (log 2, log 3). -/
def State.reset : State := State.resetWith Config.reference

end Sys2Proof.Machine
end

