-- ==== Sys2Proof/Machine/Flags.lean ====
section
/-! DEFINITION. The status predicates (10_state R44), each computed from state when asked, and the guard of TICK. -/

namespace Sys2Proof.Machine

/-- `all_finished`: nothing is pending (40_barrier R123). -/
def allFinished (b : Barrier) : Bit := decide (b.pending = 0)

/-- `is_initialized`: all three tables and the color reference are present (42_bus R163). -/
def isInitialized (b : Bus) : Bit := b.cpuRd.isSome && b.cpuWr.isSome && b.vicRd.isSome && b.color.isSome

/-- `is_zero`: the visible counter is 0, all 16 bits compared (43_logic_primitives R184). -/
def isZero (c : Counter) : Bit := decide (c.counter = 0#16)

/-- `out` of a WireAnd, live (43_logic_primitives R197). -/
def wireOut (w : WireAnd) : Bit := w.line1 && w.line2

/-- The output level of an AndPort (43_logic_primitives R195); it is not stored. -/
def andOut (p : AndPort) : Bit := p.in1 && p.in2

/-- TICK is enabled: RUNNING and, in strict lock-step, nothing pending (41_clock R142, R147). -/
def tickEnabled (c : Config) (k : Clock) (b : Barrier) : Bit :=
  k.running && (decide (c.lockstep = .bestEffort) || allFinished b)

end Sys2Proof.Machine
end

