-- ==== Sys2Proof/Machine/Operands.lean ====
section
/-! DEFINITION. Operand forms and value computations: the sense of AEC, page selection, load results, latch bytes, the
rate, signal codes, slots and lines, the set of blocked agents, the unsigned helpers (45_operation_classes R300). -/

namespace Sys2Proof.Machine

/-! ## The bus -/

/-- An access is driven: CPU with AEC asserted, or VIC with AEC deasserted (42_bus R160). -/
def driven : View → Bit → Bit
  | .cpu, aec => aec
  | .vic, aec => !aec

/-- A wider AEC value is reduced by "not equal to 0" before the port (30_encoding R94). -/
def aecLevel (level : Nat) : Bit := level != 0

/-- The page number of an address, its high byte (20_memory R60). -/
def pageOf (addr : Addr) : BitVec 8 := addr.extractLsb' 8 8

/-- The handler that a table routes an address to (20_memory R60, R61, R62). -/
def handlerAt {α : Type} (t : PageTable α) (addr : Addr) : α :=
  t.entries.get ⟨(pageOf addr).toNat, Nat.lt_of_lt_of_eq (pageOf addr).isLt t.size.symm⟩

/-- The result of a driven CPU load: the byte, bits 11:8 zero (42_bus R162). -/
def cpuResult (d : Byte) : BitVec 12 := d.setWidth 12

/-- The sentinel of a tri-stated CPU load (42_bus R162). -/
def cpuSentinel : BitVec 12 := 0x0FF#12

/-- The result of a driven VIC load: the byte, and the color byte's low nibble in bits 11:8 (42_bus R162). -/
def vicResult (d c : Byte) : BitVec 12 := ((c.extractLsb' 0 4).setWidth 12 <<< 8) ||| d.setWidth 12

/-- The result of a tri-stated VIC load: 0xFF, and the latch's low nibble in bits 11:8 (42_bus R162). -/
def vicFloating (prev : Byte) : BitVec 12 := ((prev.extractLsb' 0 4).setWidth 12 <<< 8) ||| 0x0FF#12

/-! ## Responses (30_encoding R103) -/

/-- A load result as a response. -/
def respLoad (v : BitVec 12) : Word16 := v.setWidth 16

/-- A bit as a response: 1 for true. -/
def respBit (b : Bit) : Word16 := if b then 1#16 else 0#16

/-! ## The Counter and the rate -/

/-- The latch with its low byte replaced (43_logic_primitives R180). -/
def withLowByte (latch : Word16) (byte : Byte) : Word16 := latch.extractLsb' 8 8 ++ byte

/-- The latch with its high byte replaced (43_logic_primitives R181). -/
def withHighByte (latch : Word16) (byte : Byte) : Word16 := byte ++ latch.extractLsb' 0 8

/-- One clock of a decrementing counter: down by one, wrapping to 0xFFFF (43_logic_primitives R183). -/
def countDown (c : Word16) : Word16 := if c = 0#16 then 0xFFFF#16 else c - 1#16

/-- The rate that SETRATE stores: a negative input is replaced by 1.0 (41_clock R144). -/
def rateOf (imm16 : Word16) : Word16 := if imm16.toInt < 0 then 0x0100#16 else imm16

/-! ## Signals -/

/-- The code of a signal kind (30_encoding R95). -/
def kindCode : SignalKind → BitVec 5
  | .reset => 0#5 | .irq => 1#5 | .nmi => 2#5 | .rdy => 3#5 | .aec => 4#5 | .ba => 5#5
  | .sp => 6#5 | .cnt => 7#5 | .tod => 8#5 | .flag => 9#5 | .loram => 10#5 | .hiram => 11#5
  | .charen => 12#5 | .va14 => 13#5 | .va15 => 14#5 | .game => 15#5 | .exrom => 16#5 | .dma => 17#5

/-- An AndPort's slots after a notification of the kind code `code`: none where neither slot is registered for it
(43_logic_primitives R195). -/
def driveSlot (c : AndCfg) (code : BitVec 5) (level : Bit) (p : AndPort) : Option AndPort :=
  if code = kindCode c.kind1 then some { p with in1 := level }
  else if code = kindCode c.kind2 then some { p with in2 := level }
  else none

/-- A WireAnd's lines after one is driven or released (43_logic_primitives R196). -/
def driveLine (line : WireLine) (level : Bit) (w : WireAnd) : WireAnd :=
  match line with
  | .one => { w with line1 := level }
  | .two => { w with line2 := level }

/-! ## The codes of 60_exceptions -/

/-- The code of a fault (R241). -/
def faultCode : Fault → Nat
  | .busNotInitialized => 1

/-- The code of a logged error (R243). -/
def logCode : LogError → Nat
  | .andPortUnknownSignal => 1

/-- The code of a refusal reason (R244); the model's own two have none. -/
def refusalCode : Refusal → Option Nat
  | .illegalRequest => some 1
  | .noSuchAgent => some 2
  | .noSuchInstance => some 3
  | .noSuchBankEntry => some 4
  | .agentBlocked => some 5
  | _ => none

/-! ## The set of blocked agents (10_state R24) -/

/-- The set with `a` added, kept strictly rising (log 15). -/
def insertAgent (a : Nat) : List Nat → List Nat
  | [] => [a]
  | b :: bs => if a < b then a :: b :: bs else if a = b then b :: bs else b :: insertAgent a bs

/-! ## The unsigned conversion helpers (44_signals R225) -/

/-- `U8`: the unsigned magnitude of a signed 8-bit number. -/
def u8 (s : Int) : Nat := (s % 256).toNat

/-- `U16`: the unsigned magnitude of a signed 16-bit number. -/
def u16 (s : Int) : Nat := (s % 65536).toNat

end Sys2Proof.Machine
end

