-- ==== Sys2Proof/Machine/Ops.lean ====
section
/-! DEFINITION. The shared operations: replacing a component of the state, answering a request, taking the fault, calls
on handlers, the release, delivery of notifications, and the request port. -/

namespace Sys2Proof.Machine

/-- What a step answers. -/
abbrev Result := Host.Outcome State Fault Refusal

/-! ## Replacing one component -/

/-- Replace the barrier. -/
def State.withBar (s : State) (b : Barrier) : State := { s with bar := b }
/-- Replace the clock. -/
def State.withClk (s : State) (k : Clock) : State := { s with clk := k }
/-- Replace the bus. -/
def State.withBus (s : State) (b : Bus) : State := { s with bus := b }
/-- Replace Counter `i`. -/
def State.withCtr (s : State) (i : Nat) (c : Counter) : State := { s with ctr := s.ctr.set i c }
/-- Replace FlipFlop `i`. -/
def State.withFf (s : State) (i : Nat) (f : FlipFlop) : State := { s with ff := s.ff.set i f }
/-- Replace delay-clocked FlipFlop `i`. -/
def State.withDff (s : State) (i : Nat) (f : DelayFlipFlop) : State := { s with dff := s.dff.set i f }
/-- Replace the slots of AndPort `i`. -/
def State.withAndp (s : State) (i : Nat) (p : AndPort) : State := { s with andp := s.andp.set i p }
/-- Replace WireAnd `i`. -/
def State.withWand (s : State) (i : Nat) (w : WireAnd) : State := { s with wand := s.wand.set i w }
/-- Replace the outputs. -/
def State.withOut (s : State) (o : Outputs) : State := { s with out := o }
/-- Replace the platform. -/
def State.withPlatform (s : State) (p : Platform) : State := { s with platform := p }
/-- Replace the request port. -/
def State.withPort (s : State) (p : Port) : State := { s with port := p }
/-- Replace the draw counter. -/
def State.withDraws (s : State) (n : Nat) : State := { s with draws := n }

/-! ## Answering a request (30_encoding R103; log 7) -/

/-- The state with the response of the request just served. -/
def State.answered (s : State) (r : Option Word16) : State := s.withPort { s.port with resp := r }

/-- The operation is done and returns nothing. -/
def done (s : State) : Result := .next (s.answered none)

/-- The operation is done and returns `v`. -/
def reply (v : Word16) (s : State) : Result := .next (s.answered (some v))

/-! ## Taking a fault (60_exceptions R241, R249) -/

/-- `raise Fault(f)` by the request `i`: the first fault is recorded with its word and kept, nothing else of the block
changes, and no response is returned. There is no return from it: `out.fault` is never cleared (R250). -/
def takeFault (f : Fault) (i : Instr) (s : State) : Result :=
  done (s.withOut { s.out with fault := some (s.out.fault.getD ⟨f, encode i⟩) })

/-! ## Calls on handlers (00_scope R12, 20_memory R63) -/

/-- A call is made: it joins the calls that the devices have seen. -/
def Platform.called (p : Platform) (a : Access) : Platform := { p with calls := p.calls ++ [a] }

/-- The byte that `PageRead(h, addr)` returns: a storage device's byte, `ROMX`'s, or a free value (log 10 to log 12). -/
def pageByte (p : Platform) (h : ReadHandler) (addr : Addr) : Byte :=
  match h with
  | .storage d => Memory.read p.mem (cellKey d addr)
  | .romx => addr.extractLsb' 0 8 ^^^ 0xA5#8
  | .ext e => Config.pageReadDraw p.calls e addr

/-- `PageRead(h, addr)`: the byte, and the platform after the call. -/
def pageRead (p : Platform) (h : ReadHandler) (addr : Addr) : Byte × Platform :=
  (pageByte p h addr, p.called (.read h addr))

/-- The storage bytes after `PageWrite(h, addr, v)`. -/
def writtenMem (m : Memory) (h : WriteHandler) (addr : Addr) (v : Byte) : Memory :=
  match h with
  | .storage d => Memory.write m (cellKey d addr) v
  | .null => m
  | .ext _ => m

/-- `PageWrite(h, addr, v)`: the platform after the call. -/
def pageWrite (p : Platform) (h : WriteHandler) (addr : Addr) (v : Byte) : Platform :=
  Platform.called { p with mem := writtenMem p.mem h addr v } (.write h addr v)

/-- The byte that `ColorRead(c, addr)` returns: a storage device's byte, `COL`'s, or a free value. -/
def colorByte (p : Platform) (c : ColorRef) (addr : Addr) : Byte :=
  match c with
  | .storage d => Memory.read p.mem (cellKey d addr)
  | .col => 0xF0#8 ||| (addr.extractLsb' 0 4 + 7#4).setWidth 8
  | .ext e => Config.colorReadDraw p.calls e addr

/-- `ColorRead(c, addr)`: the byte, and the platform after the call. -/
def colorRead (p : Platform) (c : ColorRef) (addr : Addr) : Byte × Platform :=
  (colorByte p c addr, p.called (.color c addr))

/-! ## The release (40_barrier R122) -/

/-- `bar.pending <- bar.expected ; bar.blocked <- {}`: RELEASE, and part (a) of TICK. -/
def released (b : Barrier) : Barrier := { b with pending := b.expected, blocked := [] }

/-! ## Delivery (44_signals R222) -/

/-- Record a delivery to an external receiver (10_state R41). -/
def State.delivered (s : State) (n : Notification) : State := s.withOut { s.out with notify := s.out.notify ++ [n] }

/-- Append an entry to the error log (60_exceptions R243). -/
def State.logged (s : State) (e : LogEntry) : State := s.withOut { s.out with log := s.out.log ++ [e] }

/-- `AND.NOTIFY i, kind, level` (43_logic_primitives R195) with everything it triggers down the chain of AndPorts, depth
first (44_signals R222). `fuel` bounds the ports on the chain (R223); none where the wiring does not end within it or
names a port the block does not have (log 16). -/
def andDeliver : Nat → State → Nat → BitVec 5 → Bit → Option State
  | 0, _, _, _, _ => none
  | fuel + 1, s, i, kind, level =>
    match s.cfg.andCfg[i]?, s.andp[i]? with
    | some c, some p =>
      match driveSlot c kind level p with
      | none => some (s.logged ⟨.andPortUnknownSignal, i, kind, level⟩)
      | some p' =>
        match c.target with
        | .ext e => some ((s.withAndp i p').delivered ⟨e, c.kindOut, andOut p'⟩)
        | .andPort j => andDeliver fuel (s.withAndp i p') j (kindCode c.kindOut) (andOut p')
    | _, _ => none

/-- `Notify(r, kind, level)` (44_signals R222). -/
def notify (s : State) (r : Receiver) (kind : SignalKind) (level : Bit) : Option State :=
  match r with
  | .ext e => some (s.delivered ⟨e, kind, level⟩)
  | .andPort i => andDeliver s.cfg.nAnd s i (kindCode kind) level

/-- One round: `Notify` for each receiver, first to last, each delivery complete before the next (41_clock R142). -/
def notifyAll (kind : SignalKind) (level : Bit) : List Receiver → State → Option State
  | [], s => some s
  | r :: rs, s => (notify s r kind level).bind (notifyAll kind level rs)

/-! ## The request port (30_encoding R90; log 4, log 5) -/

/-- An agent in `bar.blocked` has no step (40_barrier R124); the clock and the host are never blocked. -/
def mayStep (blocked : List Nat) : Agent → Bool
  | .clock => true
  | .host => true
  | .chip a => !blocked.contains a

/-- The agent number that an operation carries: only ANNOUNCE and WAIT carry one (40_barrier R124). -/
def callerOf : Instr → Option (BitVec 8)
  | .announce a => some a
  | .wait a => some a
  | _ => none

/-- The word is an ANNOUNCE or a WAIT. -/
def namesCaller (w : ReqWord) : Bool :=
  match decode w with
  | .ok i => (callerOf i).isSome
  | .error _ => false

/-- The port takes a request up: its issuer may step, or it is an ANNOUNCE or a WAIT, which the port refuses to a blocked
agent (93 U17, 92 D29). Every other request of a blocked agent is held. -/
def takesUp (blocked : List Nat) (r : Request) : Bool := mayStep blocked r.issuer || namesCaller r.word

/-- The first presented request that the port takes up, and the requests that stay. -/
def nextRequest (blocked : List Nat) : List Request → Option (Request × List Request)
  | [] => none
  | r :: rs =>
    if takesUp blocked r then some (r, rs)
    else (nextRequest blocked rs).map (fun q => (q.1, r :: q.2))

/-- The state in which the request `r` is being served and `rest` stays presented. -/
def State.serving (s : State) (r : Request) (rest : List Request) : State :=
  s.withPort { s.port with requests := rest, issuer := some r.issuer }

/-! ## The power lifecycle (44_signals R227) -/

/-- `power_on()` and `power_off()` of a chip do not reach the block: no effect on any state. -/
def powerLifecycle (s : State) : State := s

end Sys2Proof.Machine
end

