-- ==== Sys2Proof/Machine/Barrier.lean ====
section
/-! DEFINITION. The synchronization barrier's operations (40_barrier R120 to R123). -/

namespace Sys2Proof.Machine

/-- The checks of an operation that carries its caller (30_encoding R99): the agent exists and is not blocked. -/
def fromAgent (a : BitVec 8) (s : State) (k : State → Result) : Result :=
  if s.cfg.nAgents ≤ a.toNat then .refused .noSuchAgent
  else if s.bar.blocked.contains a.toNat then .refused .agentBlocked
  else k s

/-- The refusal of an ANNOUNCE or a WAIT that a blocked agent itself presents (93 U17): the range check comes first
(60_exceptions R248), and whatever existing agent it names, it comes "from an agent that is in `bar.blocked`" (R99). -/
def refuseBlocked (i : Instr) (s : State) : Result :=
  match callerOf i with
  | some a => if s.cfg.nAgents ≤ a.toNat then .refused .noSuchAgent else .refused .agentBlocked
  | none => .refused .agentBlocked

/-- ANNOUNCE (R120). -/
def execAnnounce (a : BitVec 8) (s : State) : Result :=
  fromAgent a s fun s => done (s.withBar { s.bar with expected := s.bar.expected + 1 })

/-- WAIT (R121): the decrement, only if positive, and the blocking are one step. -/
def execWait (a : BitVec 8) (s : State) : Result :=
  fromAgent a s fun s =>
    done (s.withBar { s.bar with
      pending := if 0 < s.bar.pending then s.bar.pending - 1 else s.bar.pending
      blocked := insertAgent a.toNat s.bar.blocked })

/-- RELEASE (R122). -/
def execRelease (s : State) : Result := done (s.withBar (released s.bar))

/-- ALLFIN (R123). -/
def execAllfin (s : State) : Result := reply (respBit (allFinished s.bar)) s

end Sys2Proof.Machine
end

