-- ==== Sys2Proof/Machine/Bus.lean ====
section
/-! DEFINITION. The shared bus's operations (42_bus R160 to R167). -/

namespace Sys2Proof.Machine

/-- STORE (R161): honoured for a driving CPU, otherwise no handler is called and nothing changes. -/
def execStore (addr : Addr) (value : Byte) (view : View) (aec : Bit) (s : State) : Result :=
  match s.bus.cpuRd, s.bus.cpuWr, s.bus.vicRd, s.bus.color with
  | some _, some wr, some _, some _ =>
    match view, driven view aec with
    | .cpu, true =>
      done ((s.withPlatform (pageWrite s.platform (handlerAt wr addr) addr value)).withBus { s.bus with prev := value })
    | _, _ => done s
  | _, _, _, _ => takeFault .busNotInitialized (.store addr value view aec) s

/-- LOAD (R162): for a driving VIC the page handler is read first, the color RAM second. -/
def execLoad (addr : Addr) (view : View) (aec : Bit) (s : State) : Result :=
  match s.bus.cpuRd, s.bus.cpuWr, s.bus.vicRd, s.bus.color with
  | some rd, some _, some vic, some color =>
    match view, driven view aec with
    | .cpu, true =>
      let d := pageRead s.platform (handlerAt rd addr) addr
      reply (respLoad (cpuResult d.1)) ((s.withPlatform d.2).withBus { s.bus with prev := d.1 })
    | .cpu, false => reply (respLoad cpuSentinel) s
    | .vic, true =>
      let d := pageRead s.platform (handlerAt vic addr) addr
      let c := colorRead d.2 color addr
      reply (respLoad (vicResult d.1 c.1)) ((s.withPlatform c.2).withBus { s.bus with prev := d.1 })
    | .vic, false => reply (respLoad (vicFloating s.bus.prev)) s
  | _, _, _, _ => takeFault .busNotInitialized (.load addr view aec) s

/-- ISINIT (R163). -/
def execIsinit (s : State) : Result := reply (respBit (isInitialized s.bus)) s

/-- SETCPU (R164): both tables in one step. -/
def execSetcpu (idRd idWr : BitVec 8) (s : State) : Result :=
  match s.cfg.readTable? idRd, s.cfg.writeTable? idWr with
  | some r, some w => done (s.withBus { s.bus with cpuRd := some r, cpuWr := some w })
  | _, _ => .refused .noSuchBankEntry

/-- SETVIC (R165). -/
def execSetvic (id : BitVec 8) (s : State) : Result :=
  match s.cfg.readTable? id with
  | some t => done (s.withBus { s.bus with vicRd := some t })
  | none => .refused .noSuchBankEntry

/-- SETCOLOR (R166). -/
def execSetcolor (id : BitVec 8) (s : State) : Result :=
  match s.cfg.colorRef? id with
  | some c => done (s.withBus { s.bus with color := some c })
  | none => .refused .noSuchBankEntry

end Sys2Proof.Machine
end

