-- ==== Sys2Proof/Machine/Clock.lean ====
section
/-! DEFINITION. The clock's operations (41_clock R140 to R147). -/

namespace Sys2Proof.Machine

/-- START (R140). -/
def execStart (s : State) : Result := done (s.withClk { s.clk with running := true })

/-- STOP (R141). -/
def execStop (s : State) : Result := done (s.withClk { s.clk with running := false })

/-- The countdown after one decrement and, at zero, the reload (R142 (b)). -/
def nextTod (reload tod : Nat) : Nat := if tod - 1 = 0 then reload else tod - 1

/-- One enabled pass (R142): (a) the release, (b) the countdown with its rising round at zero, (c) the falling round at
the midpoint, tested on what (b) leaves. -/
def tickPass (s : State) : Option State :=
  let t := (s.withBar (released s.bar)).withClk { s.clk with tod := nextTod s.cfg.todReload s.clk.tod }
  let rise := if s.clk.tod - 1 = 0 then notifyAll .tod true t.clk.targets t else some t
  rise.bind fun u => if u.clk.tod = u.cfg.todMid then notifyAll .tod false u.clk.targets u else some u

/-- TICK (R142): an idle pass where it is not enabled (R147). -/
def execTick (s : State) : Result :=
  if tickEnabled s.cfg s.clk s.bar then
    match tickPass s with
    | some t => done t
    | none => .refused .badConfiguration
  else done s

/-- SETRATE (R144). -/
def execSetrate (imm16 : Word16) (s : State) : Result := done (s.withClk { s.clk with rate := rateOf imm16 })

/-- GETRATE (R145). -/
def execGetrate (s : State) : Result := reply s.clk.rate s

/-- TODREG (R146). -/
def execTodreg (id : BitVec 8) (s : State) : Result :=
  match s.cfg.targetList? id with
  | some l => done (s.withClk { s.clk with targets := l })
  | none => .refused .noSuchBankEntry

end Sys2Proof.Machine
end

