-- ==== Sys2Proof/Machine/Counters.lean ====
section
/-! DEFINITION. The Counter's operations (43_logic_primitives R180 to R185). -/

namespace Sys2Proof.Machine

/-- An operation on Counter `i`; an instance the block does not have is refused (30_encoding R99). -/
def onCounter (i : BitVec 8) (s : State) (k : Counter → Result) : Result :=
  match s.ctr[i.toNat]? with
  | some c => k c
  | none => .refused .noSuchInstance

/-- CTR.WLO (R180): the counter is not touched. -/
def execCtrWlo (i : BitVec 8) (byte : Byte) (s : State) : Result :=
  onCounter i s fun c => done (s.withCtr i.toNat { c with latch := withLowByte c.latch byte })

/-- CTR.WHI (R181): the counter is reloaded from the new latch, or, while decrementing, `pending_reload` takes a draw
(log 13). -/
def execCtrWhi (i : BitVec 8) (byte : Byte) (s : State) : Result :=
  onCounter i s fun c =>
    if c.decrementing then
      done ((s.withCtr i.toNat { c with
        latch := withHighByte c.latch byte, pendingReload := Config.pendingReloadDraw s.draws }).withDraws (s.draws + 1))
    else
      done (s.withCtr i.toNat { c with latch := withHighByte c.latch byte, counter := withHighByte c.latch byte })

/-- CTR.DEC (R182). -/
def execCtrDec (i : BitVec 8) (on : Bit) (s : State) : Result :=
  onCounter i s fun c => done (s.withCtr i.toNat { c with decrementing := on })

/-- CTR.CLK (R183): no reload and no notification at underflow; no change while not decrementing. -/
def execCtrClk (i : BitVec 8) (s : State) : Result :=
  onCounter i s fun c =>
    if c.decrementing then done (s.withCtr i.toNat { c with counter := countDown c.counter }) else done s

/-- CTR.ZERO (R184). -/
def execCtrZero (i : BitVec 8) (s : State) : Result := onCounter i s fun c => reply (respBit (isZero c)) s

/-- CTR.READ (R185). -/
def execCtrRead (i : BitVec 8) (s : State) : Result := onCounter i s fun c => reply c.counter s

end Sys2Proof.Machine
end

