-- ==== Sys2Proof/Machine/FlipFlops.lean ====
section
/-! DEFINITION. The FlipFlop's and the delay-clocked FlipFlop's operations (43_logic_primitives R186 to R194). -/

namespace Sys2Proof.Machine

/-- An operation on FlipFlop `i`; an instance the block does not have is refused (30_encoding R99). -/
def onFlipFlop (i : BitVec 8) (s : State) (k : FlipFlop → Result) : Result :=
  match s.ff[i.toNat]? with
  | some f => k f
  | none => .refused .noSuchInstance

/-- FF.SET (R186). -/
def execFfSet (i : BitVec 8) (s : State) : Result := onFlipFlop i s fun _ => done (s.withFf i.toNat ⟨true⟩)

/-- FF.RST (R187). -/
def execFfRst (i : BitVec 8) (s : State) : Result := onFlipFlop i s fun _ => done (s.withFf i.toNat ⟨false⟩)

/-- FF.INV (R188). -/
def execFfInv (i : BitVec 8) (s : State) : Result := onFlipFlop i s fun f => done (s.withFf i.toNat ⟨!f.state⟩)

/-- FF.GET (R189). -/
def execFfGet (i : BitVec 8) (s : State) : Result := onFlipFlop i s fun f => reply (respBit f.state) s

/-- An operation on delay-clocked FlipFlop `i`; an instance the block does not have is refused (30_encoding R99). -/
def onDelayFlipFlop (i : BitVec 8) (s : State) (k : DelayFlipFlop → Result) : Result :=
  match s.dff[i.toNat]? with
  | some f => k f
  | none => .refused .noSuchInstance

/-- DFF.SET (R190): the observable value is not touched. -/
def execDffSet (i : BitVec 8) (s : State) : Result :=
  onDelayFlipFlop i s fun f => done (s.withDff i.toNat { f with inputState := true })

/-- DFF.RST (R191). -/
def execDffRst (i : BitVec 8) (s : State) : Result :=
  onDelayFlipFlop i s fun f => done (s.withDff i.toNat { f with inputState := false })

/-- DFF.INV (R192): the value being latched is inverted. -/
def execDffInv (i : BitVec 8) (s : State) : Result :=
  onDelayFlipFlop i s fun f => done (s.withDff i.toNat { f with inputState := !f.inputState })

/-- DFF.CLK (R193): the explicit clock pulse. -/
def execDffClk (i : BitVec 8) (s : State) : Result :=
  onDelayFlipFlop i s fun f => done (s.withDff i.toNat { f with outputState := f.inputState })

/-- DFF.GET (R194). -/
def execDffGet (i : BitVec 8) (s : State) : Result := onDelayFlipFlop i s fun f => reply (respBit f.outputState) s

end Sys2Proof.Machine
end

