-- ==== Sys2Proof/Machine/Gates.lean ====
section
/-! DEFINITION. The AndPort's and the WireAnd's operations (43_logic_primitives R195 to R197). -/

namespace Sys2Proof.Machine

/-- AND.NOTIFY (R195): an unrecognised kind is logged and dropped, a recognised one sends the output down the chain. -/
def execAndNotify (i : BitVec 8) (kind : BitVec 5) (level : Bit) (s : State) : Result :=
  match s.cfg.andCfg[i.toNat]?, s.andp[i.toNat]? with
  | some _, some _ =>
    match andDeliver s.cfg.nAnd s i.toNat kind level with
    | some t => done t
    | none => .refused .badConfiguration
  | _, _ => .refused .noSuchInstance

/-- An operation on WireAnd `i`; an instance the block does not have is refused (30_encoding R99). -/
def onWireAnd (i : BitVec 8) (s : State) (k : WireAnd → Result) : Result :=
  match s.wand[i.toNat]? with
  | some w => k w
  | none => .refused .noSuchInstance

/-- WAND.SET (R196): a WireAnd sends nothing. -/
def execWandSet (i : BitVec 8) (line : WireLine) (level : Bit) (s : State) : Result :=
  onWireAnd i s fun w => done (s.withWand i.toNat (driveLine line level w))

/-- WAND.GET (R197). -/
def execWandGet (i : BitVec 8) (s : State) : Result := onWireAnd i s fun w => reply (respBit (wireOut w)) s

end Sys2Proof.Machine
end

