-- ==== Sys2Proof/Machine/Dispatch.lean ====
section
/-! DEFINITION. The meaning of every operation, one arm per row of the opcode table (30_encoding R96). -/

namespace Sys2Proof.Machine

def exec (i : Instr) (s : State) : Host.Outcome State Fault Refusal :=
  match i with
  | .announce a => Sys2Proof.Machine.execAnnounce a s
  | .wait a => Sys2Proof.Machine.execWait a s
  | .release => Sys2Proof.Machine.execRelease s
  | .allfin => Sys2Proof.Machine.execAllfin s
  | .start => Sys2Proof.Machine.execStart s
  | .stop => Sys2Proof.Machine.execStop s
  | .tick => Sys2Proof.Machine.execTick s
  | .setrate imm16 => Sys2Proof.Machine.execSetrate imm16 s
  | .getrate => Sys2Proof.Machine.execGetrate s
  | .todreg id => Sys2Proof.Machine.execTodreg id s
  | .store addr value view aec => Sys2Proof.Machine.execStore addr value view aec s
  | .load addr view aec => Sys2Proof.Machine.execLoad addr view aec s
  | .isinit => Sys2Proof.Machine.execIsinit s
  | .setcpu idRd idWr => Sys2Proof.Machine.execSetcpu idRd idWr s
  | .setvic id => Sys2Proof.Machine.execSetvic id s
  | .setcolor id => Sys2Proof.Machine.execSetcolor id s
  | .ctrWlo inst byte => Sys2Proof.Machine.execCtrWlo inst byte s
  | .ctrWhi inst byte => Sys2Proof.Machine.execCtrWhi inst byte s
  | .ctrDec inst on => Sys2Proof.Machine.execCtrDec inst on s
  | .ctrClk inst => Sys2Proof.Machine.execCtrClk inst s
  | .ctrZero inst => Sys2Proof.Machine.execCtrZero inst s
  | .ctrRead inst => Sys2Proof.Machine.execCtrRead inst s
  | .ffSet inst => Sys2Proof.Machine.execFfSet inst s
  | .ffRst inst => Sys2Proof.Machine.execFfRst inst s
  | .ffInv inst => Sys2Proof.Machine.execFfInv inst s
  | .ffGet inst => Sys2Proof.Machine.execFfGet inst s
  | .dffSet inst => Sys2Proof.Machine.execDffSet inst s
  | .dffRst inst => Sys2Proof.Machine.execDffRst inst s
  | .dffInv inst => Sys2Proof.Machine.execDffInv inst s
  | .dffClk inst => Sys2Proof.Machine.execDffClk inst s
  | .dffGet inst => Sys2Proof.Machine.execDffGet inst s
  | .andNotify inst kind level => Sys2Proof.Machine.execAndNotify inst kind level s
  | .wandSet inst line level => Sys2Proof.Machine.execWandSet inst line level s
  | .wandGet inst => Sys2Proof.Machine.execWandGet inst s

end Sys2Proof.Machine
end

