-- ==== Sys2Proof/WellFormed.lean ====
section
/-! DEFINITION. Well-formedness: of a request against the parameters (30_encoding R99: the range checks that read only
parameters) and of a configuration (00_scope R8, R9; 10_state R39; 44_signals R223). Every field of `Instr` has its exact
width, so every `Instr` is the decoding of a word; what can be wrong is what it names. -/

namespace Sys2Proof

/-- The range checks of 30_encoding R99 that read only parameters: agent, instance and bank numbers. -/
def Instr.wf (c : Config) : Instr → Bool
  | .announce a | .wait a => decide (a.toNat < c.nAgents)
  | .release | .allfin | .start | .stop | .tick | .setrate _ | .getrate | .isinit => true
  | .store _ _ _ _ | .load _ _ _ => true
  | .todreg id => (c.targetList? id).isSome
  | .setcpu r w => (c.readTable? r).isSome && (c.writeTable? w).isSome
  | .setvic id => (c.readTable? id).isSome
  | .setcolor id => (c.colorRef? id).isSome
  | .ctrWlo i _ | .ctrWhi i _ | .ctrDec i _ | .ctrClk i | .ctrZero i | .ctrRead i => decide (i.toNat < c.nCtr)
  | .ffSet i | .ffRst i | .ffInv i | .ffGet i => decide (i.toNat < c.nFf)
  | .dffSet i | .dffRst i | .dffInv i | .dffClk i | .dffGet i => decide (i.toNat < c.nDff)
  | .andNotify i _ _ => decide (i.toNat < c.nAnd)
  | .wandSet i _ _ | .wandGet i => decide (i.toNat < c.nWand)

/-- A configuration of this block: the ranges of 00_scope R8, the TOD constraint of R9, distinct kinds on each AndPort
(10_state R39), acyclic wiring (44_signals R223), receivers that exist (R221), storage in canonical form. -/
def Config.wf (c : Config) : Bool :=
  decide (1 ≤ c.nAgents) && decide (c.nAgents ≤ 256)
    && decide (c.nCtr ≤ 256) && decide (c.nFf ≤ 256) && decide (c.nDff ≤ 256) && decide (c.nAnd ≤ 256)
    && decide (c.nWand ≤ 256)
    && decide (2 ≤ c.todReload) && decide (c.todReload % 2 = 0)
    && c.andCfg.all (fun a => a.kind1 != a.kind2)
    && c.wiringOk
    && c.targetBank.all (fun e => e.2.all c.hasReceiver)
    && Machine.Memory.wf c.storageInit

end Sys2Proof
end

