-- ==== Sys2Proof/Machine/Step.lean ====
section
/-! DEFINITION. One step of the block: the next presented request is taken, decoded and performed (30_encoding R90;
60_exceptions R248). -/

namespace Sys2Proof.Machine

/-- One step. With no request that the port takes up, nothing happens (10_state R21: the block "reacts to requests
from agents"; log 4). A word that is no request is refused (30_encoding R98), and so is an ANNOUNCE or a WAIT that a
blocked agent presents (R99, 93 U17; log 5). -/
def step (s : State) : Host.Outcome State Fault Refusal :=
  match nextRequest s.bar.blocked s.port.requests with
  | none => .next s
  | some (r, rest) =>
    match decode r.word with
    | .error .illegalRequest => .refused .illegalRequest
    | .ok i => if mayStep s.bar.blocked r.issuer then exec i (s.serving r rest) else refuseBlocked i s

/-- The state with the word of the low `nbits` bits of `w` presented by the host before every other request, so that the
next step serves it (log 6). -/
def State.withFetchWord (s : State) (nbits w : Nat) : State :=
  s.withPort { s.port with requests := ⟨.host, tableWord nbits w⟩ :: s.port.requests }

/-- Construction (70_reset R270): a configuration that is none of this block is refused (44_signals R223). -/
def construct (c : Config) : Except Refusal State :=
  if c.wf then .ok (State.resetWith c) else .error .badConfiguration

end Sys2Proof.Machine
end

