-- ==== Sys2Proof/Safety.lean ====
section
/-! DEFINITION. What every reachable state satisfies, and what a good run is (60_exceptions R241, R244; 93 U22). -/

namespace Sys2Proof.Machine

/-- The invariant of the block: the parameters are a configuration, and every component is within the range the spec
gives it in every reachable state. -/
structure State.Inv (s : State) : Prop where
  /-- The parameters are those of a block (00_scope R8, R9; 44_signals R223). -/
  cfgWf : s.cfg.wf = true
  /-- `bar.pending <= bar.expected` (10_state R23). -/
  pendingLe : s.bar.pending ≤ s.bar.expected
  /-- `bar.blocked` is a set in its one form (log 15). -/
  blockedRising : s.bar.blocked.Pairwise (· < ·)
  /-- of agent numbers (10_state R24). -/
  blockedAgents : ∀ a ∈ s.bar.blocked, a < s.cfg.nAgents
  /-- `clk.kind` is the parameter (10_state R26). -/
  kindFixed : s.clk.kind = s.cfg.clockKind
  /-- The stored rate is not negative and below 128 (41_clock R145). -/
  rateRange : s.clk.rate.toNat < 0x8000
  /-- `1 <= clk.tod <= TOD_RELOAD` (10_state R29). -/
  todPos : 1 ≤ s.clk.tod
  todLe : s.clk.tod ≤ s.cfg.todReload
  /-- The registered receivers exist (44_signals R221). -/
  targetsExist : ∀ r ∈ s.clk.targets, s.cfg.hasReceiver r = true
  /-- One instance for each number below the counts (00_scope R8). -/
  ctrCount : s.ctr.length = s.cfg.nCtr
  ffCount : s.ff.length = s.cfg.nFf
  dffCount : s.dff.length = s.cfg.nDff
  andCount : s.andp.length = s.cfg.nAnd
  wandCount : s.wand.length = s.cfg.nWand
  /-- The storage devices' bytes are in their one form (log 11). -/
  memWf : Memory.wf s.platform.mem = true

/-- No fault has been recorded: "a faulted state is never a good final state" (R241). -/
def State.unfaulted (s : State) : Prop := s.out.fault = none

/-- A run by a harness that goes on after a refusal (45_operation_classes R302): the state, and the refusals met, a mark
that lasts for the whole run (60_exceptions R244; log 8). -/
structure HarnessRun where
  state : State
  refusals : List Refusal
deriving DecidableEq, Repr

/-- The request that the next step would serve, taken back by the harness. -/
def State.dropRequest (s : State) : State :=
  match nextRequest s.bar.blocked s.port.requests with
  | none => s
  | some (_, rest) => s.withPort { s.port with requests := rest }

/-- One request of a harness's list: a refusal changes no state and is marked. -/
def HarnessRun.serve (x : HarnessRun) : HarnessRun :=
  match step x.state with
  | .next t => { x with state := t }
  | .fault _ => x
  | .refused r => ⟨x.state.dropRequest, x.refusals ++ [r]⟩

/-- `n` requests. -/
def HarnessRun.serveMany : Nat → HarnessRun → HarnessRun
  | 0, x => x
  | n + 1, x => HarnessRun.serveMany n x.serve

/-- A run that proves something about the hardware: no refusal, no fault (93 U22). -/
def HarnessRun.Good (x : HarnessRun) : Prop := x.refusals = [] ∧ x.state.unfaulted

/-! ## Sequences of operations -/

/-- The operations of a list, one after the other, up to the first that has no next state. -/
def execAll : List Instr → State → Host.Outcome State Fault Refusal
  | [], s => .next s
  | i :: is, s =>
    match exec i s with
    | .next t => execAll is t
    | .fault f => .fault f
    | .refused r => .refused r

/-- How many operations of a list are enabled TICKs (41_clock R143: idle passes do not count). -/
def enabledTicks : List Instr → State → Nat
  | [], _ => 0
  | i :: is, s =>
    (if i = .tick ∧ tickEnabled s.cfg s.clk s.bar = true then 1 else 0) +
    match exec i s with
    | .next t => enabledTicks is t
    | _ => 0

/-- How many operations of a list are WAITs. -/
def waitCount (is : List Instr) : Nat := is.countP fun i => match i with | .wait _ => true | _ => false

/-- The operations that a release ends a wait by (40_barrier R124). -/
def isWake : Instr → Bool
  | .release => true
  | .tick => true
  | _ => false

/-- The operations that call `Notify` (44_signals R228). -/
def notifies : Instr → Bool
  | .tick => true
  | .andNotify _ _ _ => true
  | _ => false

/-- The bus accesses (20_memory R46: only LOAD and STORE reach the address spaces). -/
def isAccess : Instr → Bool
  | .store _ _ _ _ => true
  | .load _ _ _ => true
  | _ => false

/-- The operations of the bus (42_bus). -/
def isBusOp : Instr → Bool
  | .store _ _ _ _ => true
  | .load _ _ _ => true
  | .isinit => true
  | .setcpu _ _ => true
  | .setvic _ => true
  | .setcolor _ => true
  | _ => false

end Sys2Proof.Machine
end

