-- ==== Sys2Proof/Certificates/Slice0/Obligations.lean ====
section
/-! DEFINITION. The statements about the block, each from the numbered rules of spec/. `{ s.port with resp := none }` in
a next state says that the request is answered with nothing, `resp := some v` that it returns `v` (30_encoding R103). -/

section
open Sys2Proof Sys2Proof.Machine

/-! ## Encoding -/

/-- Decode and encode agree on every operation with every operand (R92, R93, R96). -/
def Obligations.DecodeEncodeRoundTrip : Prop :=
  ∀ i : Instr, decode (encode i) = .ok i

/-- Every word that decodes is the word of what it decodes to: no bit is dropped (R91, R104). -/
def Obligations.EncodeDecodeRoundTrip : Prop :=
  ∀ (w : ReqWord) (i : Instr), decode w = .ok i → encode i = w

/-- The decoder picks exactly the row of the printed opcode map that the word matches and refuses the words that match
none; at most one row matches a word (R96, R98). -/
def Obligations.DecoderFollowsTheOpcodeMap : Prop :=
  ∀ w : ReqWord,
    (decode w).toOption.map rowIndex = opcodeRows.findIdx? (matchesRow w) ∧
    opcodeRows.Pairwise fun r q => ¬(matchesRow w r = true ∧ matchesRow w q = true)

/-- A few words, written from R92 and R96, decode to what they stand for, and the signal kinds have the codes of R95. -/
def Obligations.WrittenWordsDecode : Prop :=
  decode 0x08040000#32 = .ok (.wait 1#8) ∧
  decode 0x2C00FF00#32 = .ok (.setrate 0xFF00#16) ∧
  decode 0x41AB1234#32 = .ok (.store 0x1234#16 0xAB#8 .cpu true) ∧
  decode 0x47000400#32 = .ok (.load 0x0400#16 .vic true) ∧
  decode 0x4C00FFFE#32 = .ok (.setcpu 255#8 254#8) ∧
  decode 0xC0041101#32 = .ok (.andNotify 1#8 17#5 true) ∧
  decode 0xE0000100#32 = .ok (.wandSet 0#8 .two false) ∧
  decode 0x44010000#32 = .error .illegalRequest ∧
  [SignalKind.reset, .irq, .nmi, .rdy, .aec, .ba, .sp, .cnt, .tod, .flag, .loram, .hiram, .charen, .va14, .va15, .game,
    .exrom, .dma].map kindCode =
    [0#5, 1#5, 2#5, 3#5, 4#5, 5#5, 6#5, 7#5, 8#5, 9#5, 10#5, 11#5, 12#5, 13#5, 14#5, 15#5, 16#5, 17#5]

/-! ## The request port -/

/-- A step performs the decoded operation of the next request, which has left the port (R90), where its issuer is not
blocked (the other case: BlockedAgentHasNoStep). -/
def Obligations.StepRunsTheDecodedRequest : Prop :=
  ∀ (s : State) (r : Request) (rest : List Request) (i : Instr),
    nextRequest s.bar.blocked s.port.requests = some (r, rest) → decode r.word = .ok i →
    (∀ a, r.issuer = .chip a → a ∉ s.bar.blocked) → step s = exec i { s with port := { s.port with requests := rest, issuer := some r.issuer } }

/-- The word that is placed as the next request is run by the very next step. -/
def Obligations.PlacedWordRunsNext : Prop :=
  ∀ (s : State) (i : Instr),
    step (s.withFetchWord 32 (encode i).toNat) = exec i { s with port := { s.port with issuer := some .host } }

/-- A word that matches no row of the opcode map is refused (R98); how it came to be next is the model's port (log 4). -/
def Obligations.UnmatchedWordIsRefused : Prop :=
  ∀ (s : State) (r : Request) (rest : List Request),
    nextRequest s.bar.blocked s.port.requests = some (r, rest) → opcodeRows.all (fun row => !matchesRow r.word row) = true →
    step s = .refused .illegalRequest

/-- A blocked agent has no step (R124). The port takes up of its requests only an ANNOUNCE or a WAIT, and refuses it: as
NoSuchAgent where it names no agent, else as AgentBlocked (R99, 93 U17). Every request passed over is a blocked agent's and
no ANNOUNCE or WAIT, and where only such are presented a step changes nothing (holding them at the port: log 4, log 5). -/
def Obligations.BlockedAgentHasNoStep : Prop :=
  (∀ (s : State) (r : Request) (rest : List Request) (b : Nat),
    nextRequest s.bar.blocked s.port.requests = some (r, rest) → r.issuer = .chip b → b ∈ s.bar.blocked →
    ∃ a, (decode r.word = .ok (.announce a) ∨ decode r.word = .ok (.wait a)) ∧
      step s = .refused (if s.cfg.nAgents ≤ a.toNat then .noSuchAgent else .agentBlocked)) ∧
  (∀ (s : State) (r : Request) (rest : List Request),
    nextRequest s.bar.blocked s.port.requests = some (r, rest) →
    ∃ held after, s.port.requests = held ++ r :: after ∧ rest = held ++ after ∧
      ∀ q ∈ held, (∃ b ∈ s.bar.blocked, q.issuer = .chip b) ∧
        ∀ a, decode q.word ≠ .ok (.announce a) ∧ decode q.word ≠ .ok (.wait a)) ∧
  ∀ s : State, (∀ q ∈ s.port.requests, (∃ b ∈ s.bar.blocked, q.issuer = .chip b) ∧
      ∀ a, decode q.word ≠ .ok (.announce a) ∧ decode q.word ≠ .ok (.wait a)) → step s = .next s

/-! ## Outcomes -/

/-- On a constructed block an operation completes exactly when it passes the range checks of R99 and its caller is not
blocked. Where R240 gives LOAD and STORE on an uninitialised bus no defined result, "completes" says that the step which
records the fault is a next state of the model (log 9). -/
def Obligations.CompletesExactlyWhenAdmitted : Prop :=
  ∀ (i : Instr) (s : State), s.Inv →
    ((∃ t, exec i s = .next t) ↔
      i.wf s.cfg = true ∧ ∀ a, (i = .announce a ∨ i = .wait a) → a.toNat ∉ s.bar.blocked)

/-- On a constructed block a request is turned away only for a reason of R244, with that reason's code. -/
def Obligations.RefusalsAreThoseOfThePort : Prop :=
  ∀ (s : State) (r : Refusal), s.Inv → step s = .refused r →
    (r = .illegalRequest ∧ refusalCode r = some 1) ∨ (r = .noSuchAgent ∧ refusalCode r = some 2) ∨
    (r = .noSuchInstance ∧ refusalCode r = some 3) ∨ (r = .noSuchBankEntry ∧ refusalCode r = some 4) ∨
    (r = .agentBlocked ∧ refusalCode r = some 5)

/-- No step stops in a fault: the one fault of the block is recorded in `out.fault` and the block goes on (R241, R242,
R250). -/
def Obligations.NoStepStopsInFault : Prop :=
  ∀ (s : State) (f : Fault), step s ≠ .fault f

/-! ## Reset and invariants -/

/-- What reset leaves, for every value of the parameters (R49, R271). -/
def Obligations.ResetValues : Prop :=
  ∀ c : Config,
    (State.resetWith c).bar = ⟨0, 0, []⟩ ∧
    (State.resetWith c).clk = ⟨c.clockKind, 0x0100#16, false, c.todReload, []⟩ ∧
    (State.resetWith c).bus = ⟨c.busPrevInit, none, none, none, none⟩ ∧
    (∀ i < c.nCtr, (State.resetWith c).ctr[i]? = some ⟨c.ctrInit, 0xFFFF#16, false, false⟩) ∧
    (∀ i < c.nFf, (State.resetWith c).ff[i]? = some ⟨false⟩) ∧
    (∀ i < c.nDff, (State.resetWith c).dff[i]? = some ⟨false, false⟩) ∧
    (∀ i < c.nAnd, (State.resetWith c).andp[i]? = some ⟨true, true⟩) ∧
    (∀ i < c.nWand, (State.resetWith c).wand[i]? = some ⟨true, true⟩) ∧
    (State.resetWith c).out = ⟨[], [], none⟩ ∧
    allFinished (State.resetWith c).bar = true ∧ isInitialized (State.resetWith c).bus = false ∧
    State.reset.clk.tod = 160000

/-- The reset state satisfies the invariant (on the configuration the model chose: log 2, log 3). -/
def Obligations.ResetSatisfiesTheInvariant : Prop :=
  State.reset.Inv

/-- Construction answers the reset state of R49 exactly for the configurations of R8, R9, R39, R221 and R223, refuses every
other, and what it answers satisfies the invariant (R270, R271); storage in one form is the model's (log 11). -/
def Obligations.ConstructionGivesTheInvariant : Prop :=
  ∀ c : Config,
    (construct c = .ok (State.resetWith c) ↔
      (1 ≤ c.nAgents ∧ c.nAgents ≤ 256) ∧
      (c.nCtr ≤ 256 ∧ c.nFf ≤ 256 ∧ c.nDff ≤ 256 ∧ c.andCfg.length ≤ 256 ∧ c.nWand ≤ 256) ∧
      (2 ≤ c.todReload ∧ c.todReload % 2 = 0) ∧
      (∀ a ∈ c.andCfg, a.kind1 ≠ a.kind2) ∧
      (∀ i j, hop c.andCfg i = some j → j < c.andCfg.length) ∧ (¬∃ i k, hops c.andCfg (k + 1) i = some i) ∧
      (∀ e ∈ c.targetBank, ∀ i, .andPort i ∈ e.2 → i < c.andCfg.length) ∧
      Memory.wf c.storageInit = true) ∧
    (construct c = .ok (State.resetWith c) → (State.resetWith c).Inv) ∧
    (construct c ≠ .ok (State.resetWith c) → construct c = .error .badConfiguration)

/-- Every step keeps the invariant. -/
def Obligations.StepKeepsTheInvariant : Prop :=
  ∀ s t : State, s.Inv → step s = .next t → t.Inv

/-- Every step keeps `bar.pending <= bar.expected`, and after a release and `k` waits `bar.pending` is
`max(bar.expected - k, 0)` and exactly those `k` agents are blocked (R125). -/
def Obligations.PendingCountsTheWaits : Prop :=
  (∀ s t : State, s.bar.pending ≤ s.bar.expected → step s = .next t → t.bar.pending ≤ t.bar.expected) ∧
  ∀ (s : State) (callers : List (BitVec 8)), callers.Nodup → (∀ a ∈ callers, a.toNat < s.cfg.nAgents) →
    ∃ t, execAll (.release :: callers.map .wait) s = .next t ∧
      t.bar.pending = s.bar.expected - callers.length ∧ t.bar.expected = s.bar.expected ∧
      ∀ b, b ∈ t.bar.blocked ↔ ∃ a ∈ callers, b = a.toNat

/-- The parameters and the clock's profile never change (R26, R48). -/
def Obligations.ParametersNeverChange : Prop :=
  ∀ s t : State, step s = .next t → t.cfg = s.cfg ∧ t.clk.kind = s.clk.kind

/-- The notifications and the error log only grow, and a recorded fault is never cleared and never overwritten (R41, R42,
R43). -/
def Obligations.OutputsGrowAndFaultSticks : Prop :=
  ∀ s t : State, step s = .next t →
    s.out.notify <+: t.out.notify ∧ s.out.log <+: t.out.log ∧
    ∀ f, s.out.fault = some f → t.out.fault = some f

/-- A fault that a step records is `BusNotInitialized`, raised by a LOAD or STORE on an uninitialised bus, with the word
of the request just served (R241). -/
def Obligations.FaultRecordsTheServedWord : Prop :=
  ∀ (s t : State) (r : Request) (rest : List Request),
    nextRequest s.bar.blocked s.port.requests = some (r, rest) → step s = .next t → t.out.fault ≠ s.out.fault →
    t.out.fault = some ⟨.busNotInitialized, r.word⟩ ∧ faultCode .busNotInitialized = 1 ∧ isInitialized s.bus = false ∧
      ∃ i, decode r.word = .ok i ∧ isAccess i = true

/-- Suspension occurs only at WAIT, of its caller (R124); only RELEASE and TICK wake an agent, and they wake all (R304). -/
def Obligations.OnlyWaitSuspendsOnlyReleaseWakes : Prop :=
  ∀ (i : Instr) (s t : State), exec i s = .next t →
    (∀ b, b ∈ t.bar.blocked → b ∉ s.bar.blocked → ∃ a : BitVec 8, i = .wait a ∧ b = a.toNat) ∧
    (∀ b, b ∈ s.bar.blocked → b ∉ t.bar.blocked → isWake i = true ∧ t.bar.blocked = [])

/-- The latch `bus.prev` changes only by a driven LOAD or an honoured STORE, and the platform is called only by those
(R31, R46, R69). -/
def Obligations.OnlyDrivenAccessesTouchLatchAndPlatform : Prop :=
  ∀ (i : Instr) (s t : State), exec i s = .next t → (t.bus.prev ≠ s.bus.prev ∨ t.platform ≠ s.platform) →
    isInitialized s.bus = true ∧
    ((∃ addr v, i = .store addr v .cpu true) ∨ (∃ addr, i = .load addr .cpu true) ∨ (∃ addr, i = .load addr .vic false))

/-- Only TICK and AND.NOTIFY append to the notifications or to the error log (R228, R243). -/
def Obligations.OnlyTickAndNotifySend : Prop :=
  ∀ (i : Instr) (s t : State), exec i s = .next t → notifies i = false →
    t.out.notify = s.out.notify ∧ t.out.log = s.out.log

/-- Only TICK changes the countdown, and only the operations on the barrier and TICK change the barrier (R50, R29). -/
def Obligations.CountdownAndBarrierOwners : Prop :=
  ∀ (i : Instr) (s t : State), exec i s = .next t →
    (t.clk.tod ≠ s.clk.tod → i = .tick) ∧
    (t.bar ≠ s.bar → i = .tick ∨ i = .release ∨ ∃ a, i = .announce a ∨ i = .wait a)

/-- A bus operation neither reads nor writes barrier, clock or primitive state (R305). -/
def Obligations.BusOperationsIgnoreTheRest : Prop :=
  ∀ (i : Instr) (s s' t : State), isBusOp i = true →
    s'.cfg = s.cfg → s'.bus = s.bus → s'.platform = s.platform → s'.out = s.out → s'.port = s.port →
    exec i s = .next t →
    exec i s' = .next { s' with bus := t.bus, platform := t.platform, out := t.out, port := t.port } ∧
    t.bar = s.bar ∧ t.clk = s.clk ∧ t.ctr = s.ctr ∧ t.ff = s.ff ∧ t.dff = s.dff ∧ t.andp = s.andp ∧ t.wand = s.wand ∧
    t.draws = s.draws

/-! ## The barrier -/

/-- ANNOUNCE counts one more waiter, takes effect on `bar.pending` only at the next release, and is refused to an agent
the block does not have or that is blocked (R120). -/
def Obligations.AnnounceCountsOneMore : Prop :=
  ∀ (a : BitVec 8) (s : State),
    decode (0x01#6 ++ a ++ 0#18) = .ok (.announce a) ∧
    (s.cfg.nAgents ≤ a.toNat → exec (.announce a) s = .refused .noSuchAgent) ∧
    (a.toNat < s.cfg.nAgents → a.toNat ∈ s.bar.blocked → exec (.announce a) s = .refused .agentBlocked) ∧
    (a.toNat < s.cfg.nAgents → a.toNat ∉ s.bar.blocked → exec (.announce a) s = .next { s with
      bar := { s.bar with expected := s.bar.expected + 1 }
      port := { s.port with resp := none } })

/-- WAIT lowers `bar.pending` if it is positive and blocks the caller, in one step, and is refused like ANNOUNCE (R121). -/
def Obligations.WaitBlocksTheCaller : Prop :=
  ∀ (a : BitVec 8) (s : State),
    decode (0x02#6 ++ a ++ 0#18) = .ok (.wait a) ∧
    (s.cfg.nAgents ≤ a.toNat → exec (.wait a) s = .refused .noSuchAgent) ∧
    (a.toNat < s.cfg.nAgents → a.toNat ∈ s.bar.blocked → exec (.wait a) s = .refused .agentBlocked) ∧
    (a.toNat < s.cfg.nAgents → a.toNat ∉ s.bar.blocked → ∃ after : List Nat,
      exec (.wait a) s = .next { s with
        bar := { s.bar with pending := s.bar.pending - 1, blocked := after }
        port := { s.port with resp := none } } ∧
      ∀ b, b ∈ after ↔ b = a.toNat ∨ b ∈ s.bar.blocked)

/-- RELEASE copies `bar.expected` to `bar.pending` and wakes everyone (R122); ALLFIN says whether nothing is pending
(R123). -/
def Obligations.ReleaseWakesAllAndAllfinReports : Prop :=
  ∀ s : State,
    decode 0x0C000000#32 = .ok .release ∧ decode 0x10000000#32 = .ok .allfin ∧
    exec .release s = .next { s with
      bar := ⟨s.bar.expected, s.bar.expected, []⟩
      port := { s.port with resp := none } } ∧
    exec .allfin s = .next { s with
      port := { s.port with resp := some (if s.bar.pending = 0 then 1#16 else 0#16) } }

/-! ## The clock -/

/-- START and STOP set and clear `clk.running` and touch nothing else (R140, R141). -/
def Obligations.StartAndStopToggleRunning : Prop :=
  ∀ s : State,
    decode 0x20000000#32 = .ok .start ∧ decode 0x24000000#32 = .ok .stop ∧
    exec .start s = .next { s with clk := { s.clk with running := true }, port := { s.port with resp := none } } ∧
    exec .stop s = .next { s with clk := { s.clk with running := false }, port := { s.port with resp := none } }

/-- TICK idles while STOPPED, and in strict lock-step while anything is pending (R142, R147). -/
def Obligations.TickIdlesWhenNotEnabled : Prop :=
  ∀ s : State, (s.clk.running = false ∨ (s.cfg.lockstep = .strict ∧ 0 < s.bar.pending)) →
    exec .tick s = .next { s with port := { s.port with resp := none } }

/-- An enabled TICK with external targets: the release, the countdown with its reload, the rising round at zero, then
the falling round at the midpoint, in list order, and nothing else (R142). -/
def Obligations.EnabledTickNotifiesTheTargets : Prop :=
  ∀ (s : State) (es : List Nat), s.clk.running = true → (s.cfg.lockstep = .bestEffort ∨ s.bar.pending = 0) →
    1 ≤ s.clk.tod → s.clk.targets = es.map .ext →
    let tod' := if s.clk.tod - 1 = 0 then s.cfg.todReload else s.clk.tod - 1
    exec .tick s = .next { s with
      bar := ⟨s.bar.expected, s.bar.expected, []⟩
      clk := { s.clk with tod := tod' }
      out := { s.out with notify := s.out.notify
        ++ (if s.clk.tod - 1 = 0 then es.map (fun e => ⟨e, .tod, true⟩) else [])
        ++ (if tod' = s.cfg.todReload / 2 then es.map (fun e => ⟨e, .tod, false⟩) else []) }
      port := { s.port with resp := none } }

/-- On a constructed block an enabled TICK completes whatever stands in the target list. With `u` the state after the
release and the countdown, its state is that of the rising round from `u` where the countdown reached zero, that of the
falling round from `u` where it is at the midpoint, and `u` itself at neither edge (R142, R305). -/
def Obligations.EnabledTickFrame : Prop :=
  ∀ s : State, s.Inv → tickEnabled s.cfg s.clk s.bar = true →
    let tod' := if s.clk.tod - 1 = 0 then s.cfg.todReload else s.clk.tod - 1
    let u := { s with bar := ⟨s.bar.expected, s.bar.expected, []⟩, clk := { s.clk with tod := tod' } }
    ∃ t, exec .tick s = .next { t with port := { s.port with resp := none } } ∧
      t = { u with andp := t.andp, out := t.out } ∧ t.out.fault = s.out.fault ∧
      (s.clk.tod - 1 = 0 → notifyAll .tod true s.clk.targets u = some t) ∧
      (tod' = s.cfg.todReload / 2 → notifyAll .tod false s.clk.targets u = some t) ∧
      (s.clk.tod - 1 ≠ 0 → tod' ≠ s.cfg.todReload / 2 → t = u)

/-- An AndPort that is the TOD target is notified by an enabled TICK inside the step, like any receiver: at an edge the TICK
is that AndPort's AND.NOTIFY of the TOD kind, on the state after the release and the countdown (R142, R195, C4). -/
def Obligations.EnabledTickNotifiesAnAndPort : Prop :=
  ∀ (s : State) (i : BitVec 8), s.Inv → tickEnabled s.cfg s.clk s.bar = true → s.clk.targets = [.andPort i.toNat] →
    let released := { s with bar := ⟨s.bar.expected, s.bar.expected, []⟩ }
    (s.clk.tod = 1 → exec .tick s =
      exec (.andNotify i (kindCode .tod) true) { released with clk := { s.clk with tod := s.cfg.todReload } }) ∧
    (s.clk.tod = s.cfg.todReload / 2 + 1 → exec .tick s =
      exec (.andNotify i (kindCode .tod) false) { released with clk := { s.clk with tod := s.cfg.todReload / 2 } })

/-- The closed form of the countdown over any run: only enabled TICKs count, and STOP and START do not reset it (R143). -/
def Obligations.CountdownClosedForm : Prop :=
  ∀ (is : List Instr) (s t : State), 1 ≤ s.clk.tod → s.clk.tod ≤ s.cfg.todReload → execAll is s = .next t →
    t.clk.tod = s.cfg.todReload - (s.cfg.todReload - s.clk.tod + enabledTicks is s) % s.cfg.todReload

/-- The closed form of the rounds: from a full countdown, over a run that neither registers targets nor notifies an
AndPort, each external target has been sent `floor(n / TOD_RELOAD)` rising and `floor((n + TOD_MID) / TOD_RELOAD)` falling
edges for each time it stands in the list, `n` the number of enabled TICKs (R143). -/
def Obligations.TodRoundsClosedForm : Prop :=
  ∀ (is : List Instr) (s t : State) (es : List Nat),
    2 ≤ s.cfg.todReload → s.cfg.todReload % 2 = 0 → s.clk.tod = s.cfg.todReload → s.clk.targets = es.map .ext →
    (∀ i ∈ is, (∀ id, i ≠ .todreg id) ∧ ∀ p k l, i ≠ .andNotify p k l) → execAll is s = .next t →
    ∃ sent, t.out.notify = s.out.notify ++ sent ∧ ∀ e,
      sent.count ⟨e, .tod, true⟩ = es.count e * (enabledTicks is s / s.cfg.todReload) ∧
      sent.count ⟨e, .tod, false⟩ = es.count e * ((enabledTicks is s + s.cfg.todReload / 2) / s.cfg.todReload)

/-- In strict lock-step a TICK is enabled only after as many WAITs as were pending (R147). -/
def Obligations.StrictTickNeedsTheWaits : Prop :=
  ∀ (is : List Instr) (s t : State), s.bar.pending ≤ s.bar.expected → s.cfg.lockstep = .strict →
    execAll is s = .next t → tickEnabled t.cfg t.clk t.bar = true → s.bar.pending ≤ waitCount is

/-- SETRATE stores its operand, or 1.0 for a negative one (R144); GETRATE returns what is stored (R145). -/
def Obligations.RateIsStoredAndRead : Prop :=
  ∀ (imm : Word16) (s : State),
    decode (0x0B#6 ++ 0#10 ++ imm) = .ok (.setrate imm) ∧ decode 0x30000000#32 = .ok .getrate ∧
    (imm.toInt < 0 → exec (.setrate imm) s = .next { s with
      clk := { s.clk with rate := 0x0100#16 }, port := { s.port with resp := none } }) ∧
    (0 ≤ imm.toInt → exec (.setrate imm) s = .next { s with
      clk := { s.clk with rate := imm }, port := { s.port with resp := none } }) ∧
    exec .getrate s = .next { s with port := { s.port with resp := some s.clk.rate } }

/-- TODREG replaces the whole target list by the bank's, and is refused where the bank has no such entry (R146). -/
def Obligations.TodregReplacesTheTargets : Prop :=
  ∀ (id : BitVec 8) (s : State),
    decode (0x0D#6 ++ 0#18 ++ id) = .ok (.todreg id) ∧
    (s.cfg.targetBank.lookup id = none → exec (.todreg id) s = .refused .noSuchBankEntry) ∧
    ∀ l, s.cfg.targetBank.lookup id = some l → exec (.todreg id) s = .next { s with
      clk := { s.clk with targets := l }, port := { s.port with resp := none } }

/-! ## The bus -/

/-- STORE (R161), with the write table's entry at `addr[15:8]` (R60). Honoured, for a driving CPU: the page's write handler is called with the whole address, a storage device
takes exactly the one byte at the key of that address, and the latch takes the value written. Otherwise, on an
initialised bus, a no-op. On an uninitialised bus, the fault with the word. That storage devices hold bytes by key is the
model's (log 11), and that the fault is a next state (log 9). -/
def Obligations.StoreFollowsItsRule : Prop :=
  ∀ (s : State) (addr : Addr) (v : Byte) (view : View) (aec : Bit),
    decode (0x10#6 ++ (if view = .vic then 1#1 else 0#1) ++ (if aec then 1#1 else 0#1) ++ v ++ addr)
      = .ok (.store addr v view aec) ∧
    (∀ t : WriteTable, t.entries[addr.toNat / 256]? = some (handlerAt t addr)) ∧
    (∀ (rd : ReadTable) (wr : WriteTable) (vic : ReadTable) (color : ColorRef),
      s.bus = ⟨s.bus.prev, some rd, some wr, some vic, some color⟩ → Memory.wf s.platform.mem = true →
      ∃ mem : Memory, exec (.store addr v .cpu true) s = .next { s with
          bus := { s.bus with prev := v }
          platform := ⟨mem, s.platform.calls ++ [.write (handlerAt wr addr) addr v]⟩
          port := { s.port with resp := none } } ∧
        Memory.wf mem = true ∧
        (∀ d, handlerAt wr addr = .storage d → Memory.read mem (cellKey d addr) = v) ∧
        ∀ a, (∀ d, handlerAt wr addr = .storage d → a ≠ cellKey d addr) →
          Memory.read mem a = Memory.read s.platform.mem a) ∧
    (isInitialized s.bus = true → (view = .vic ∨ aec = false) →
      exec (.store addr v view aec) s = .next { s with port := { s.port with resp := none } }) ∧
    (isInitialized s.bus = false → exec (.store addr v view aec) s = .next { s with
      out := { s.out with fault := some (s.out.fault.getD ⟨.busNotInitialized, encode (.store addr v view aec)⟩) }
      port := { s.port with resp := none } })

/-- LOAD (R162), with a read table's entry at `addr[15:8]` (R60): its four cases on an initialised bus: driven CPU, tri-stated CPU, driven VIC (page first, color second),
tri-stated VIC; no byte of storage changes. On an uninitialised bus, the fault with the word. What `pageRead` and
`colorRead` return for a device outside the block is a free value (log 10); that the fault is a next state is log 9. -/
def Obligations.LoadFollowsItsRule : Prop :=
  ∀ (s : State) (addr : Addr) (view : View) (aec : Bit),
    decode (0x11#6 ++ (if view = .vic then 1#1 else 0#1) ++ (if aec then 1#1 else 0#1) ++ 0#8 ++ addr)
      = .ok (.load addr view aec) ∧
    (∀ t : ReadTable, t.entries[addr.toNat / 256]? = some (handlerAt t addr)) ∧
    (∀ (rd : ReadTable) (wr : WriteTable) (vic : ReadTable) (color : ColorRef),
      s.bus = ⟨s.bus.prev, some rd, some wr, some vic, some color⟩ →
      let d := pageRead s.platform (handlerAt rd addr) addr
      let e := pageRead s.platform (handlerAt vic addr) addr
      let c := colorRead e.2 color addr
      exec (.load addr .cpu true) s = .next { s with
        bus := { s.bus with prev := d.1 }, platform := d.2
        port := { s.port with resp := some (0#8 ++ d.1) } } ∧
      exec (.load addr .cpu false) s = .next { s with port := { s.port with resp := some 0x00FF#16 } } ∧
      exec (.load addr .vic false) s = .next { s with
        bus := { s.bus with prev := e.1 }, platform := c.2
        port := { s.port with resp := some (0#4 ++ c.1.extractLsb' 0 4 ++ e.1) } } ∧
      exec (.load addr .vic true) s = .next { s with
        port := { s.port with resp := some (0#4 ++ s.bus.prev.extractLsb' 0 4 ++ 0xFF#8) } } ∧
      ∀ a, Memory.read d.2.mem a = Memory.read s.platform.mem a ∧ Memory.read c.2.mem a = Memory.read s.platform.mem a) ∧
    (isInitialized s.bus = false → exec (.load addr view aec) s = .next { s with
      out := { s.out with fault := some (s.out.fault.getD ⟨.busNotInitialized, encode (.load addr view aec)⟩) }
      port := { s.port with resp := none } })

/-- The laws of the bus (R168), each on an initialised bus: (1) a CPU store and then a CPU load on pages that share a
storage device return the byte stored and leave it in the latch; (2) a tri-stated CPU load returns 0xFF; (3) a driven VIC
load returns `d | (c << 8)` and latches `d`; (4) a tri-stated VIC load returns `0xFF | ((prev & 0x0F) << 8)`, whatever
stands behind the bus. A storage device is the model's platform (log 11). -/
def Obligations.BusLaws : Prop :=
  ∀ (s : State) (addr : Addr) (v : Byte) (rd : ReadTable) (wr : WriteTable) (vic : ReadTable) (color : ColorRef),
    s.bus = ⟨s.bus.prev, some rd, some wr, some vic, some color⟩ → Memory.wf s.platform.mem = true →
    (∀ k, handlerAt wr addr = .storage k → handlerAt rd addr = .storage k →
      ∃ t, execAll [.store addr v .cpu true, .load addr .cpu true] s = .next t ∧
        t.port.resp = some (v.setWidth 16) ∧ t.bus.prev = v) ∧
    (∃ t, exec (.load addr .cpu false) s = .next t ∧ t.port.resp = some 0xFF#16) ∧
    (∀ d c : Byte, (pageRead s.platform (handlerAt vic addr) addr).1 = d →
      (colorRead (pageRead s.platform (handlerAt vic addr) addr).2 color addr).1 = c →
      ∃ t, exec (.load addr .vic false) s = .next t ∧
        t.port.resp = some (d.setWidth 16 ||| ((c &&& 0x0F#8).setWidth 16 <<< 8)) ∧ t.bus.prev = d) ∧
    (∀ p : Platform, ∃ t, exec (.load addr .vic true) { s with platform := p } = .next t ∧
      t.port.resp = some (0xFF#16 ||| ((s.bus.prev &&& 0x0F#8).setWidth 16 <<< 8)))

/-- ISINIT answers 1 exactly when all four are present and writes nothing, and no step takes that answer back (R163). -/
def Obligations.IsinitReportsAndStaysTrue : Prop :=
  ∀ s : State, decode 0x48000000#32 = .ok .isinit ∧
    exec .isinit s = .next { s with port := { s.port with resp := some (respBit (isInitialized s.bus)) } } ∧
    (isInitialized s.bus = true ↔
      s.bus.cpuRd ≠ none ∧ s.bus.cpuWr ≠ none ∧ s.bus.vicRd ≠ none ∧ s.bus.color ≠ none) ∧
    respBit true = 1#16 ∧ respBit false = 0#16 ∧
    ∀ t, isInitialized s.bus = true → step s = .next t → isInitialized t.bus = true

/-- SETCPU replaces both CPU tables in one step, and is refused unless the first id names a read table and the second a
write table (R164). -/
def Obligations.SetcpuReplacesBothTables : Prop :=
  ∀ (r w : BitVec 8) (s : State),
    decode (0x13#6 ++ 0#10 ++ r ++ w) = .ok (.setcpu r w) ∧
    (∀ rd wr, s.cfg.tableBank.lookup r = some (.read rd) → s.cfg.tableBank.lookup w = some (.write wr) →
      exec (.setcpu r w) s = .next { s with
        bus := { s.bus with cpuRd := some rd, cpuWr := some wr }, port := { s.port with resp := none } }) ∧
    (((∀ rd, s.cfg.tableBank.lookup r ≠ some (.read rd)) ∨ ∀ wr, s.cfg.tableBank.lookup w ≠ some (.write wr)) →
      exec (.setcpu r w) s = .refused .noSuchBankEntry)

/-- SETVIC and SETCOLOR replace the VIC table and the color reference, and are refused unless the bank has a suitable
entry (R165, R166). -/
def Obligations.SetvicAndSetcolorReplace : Prop :=
  ∀ (id : BitVec 8) (s : State),
    decode (0x14#6 ++ 0#18 ++ id) = .ok (.setvic id) ∧ decode (0x15#6 ++ 0#18 ++ id) = .ok (.setcolor id) ∧
    (∀ t, s.cfg.tableBank.lookup id = some (.read t) → exec (.setvic id) s = .next { s with
      bus := { s.bus with vicRd := some t }, port := { s.port with resp := none } }) ∧
    ((∀ t, s.cfg.tableBank.lookup id ≠ some (.read t)) → exec (.setvic id) s = .refused .noSuchBankEntry) ∧
    (∀ c, s.cfg.colorBank.lookup id = some c → exec (.setcolor id) s = .next { s with
      bus := { s.bus with color := some c }, port := { s.port with resp := none } }) ∧
    (s.cfg.colorBank.lookup id = none → exec (.setcolor id) s = .refused .noSuchBankEntry)

/-! ## The Counter -/

/-- The writes of the Counter: CTR.WLO keeps the counter, CTR.WHI reloads it unless decrementing, where the counter
stays and `pending_reload` takes some value; CTR.DEC sets the flag (R180, R181, R182). That the draws are numbered by
`draws`, which that case advances, is the model's (log 13). -/
def Obligations.CounterWrites : Prop :=
  ∀ (i : BitVec 8) (byte : Byte) (on : Bit) (s : State) (c : Counter), s.ctr[i.toNat]? = some c →
    decode (0x18#6 ++ i ++ 0#10 ++ byte) = .ok (.ctrWlo i byte) ∧
    decode (0x19#6 ++ i ++ 0#10 ++ byte) = .ok (.ctrWhi i byte) ∧
    decode (0x1A#6 ++ i ++ 0#17 ++ (if on then 1#1 else 0#1)) = .ok (.ctrDec i on) ∧
    exec (.ctrWlo i byte) s = .next { s with
      ctr := s.ctr.set i.toNat { c with latch := c.latch.extractLsb' 8 8 ++ byte }
      port := { s.port with resp := none } } ∧
    (c.decrementing = false → exec (.ctrWhi i byte) s = .next { s with
      ctr := s.ctr.set i.toNat
        { c with latch := byte ++ c.latch.extractLsb' 0 8, counter := byte ++ c.latch.extractLsb' 0 8 }
      port := { s.port with resp := none } }) ∧
    (c.decrementing = true → ∃ draw : Bit, exec (.ctrWhi i byte) s = .next { s with
      ctr := s.ctr.set i.toNat { c with latch := byte ++ c.latch.extractLsb' 0 8, pendingReload := draw }
      draws := s.draws + 1
      port := { s.port with resp := none } }) ∧
    exec (.ctrDec i on) s = .next { s with
      ctr := s.ctr.set i.toNat { c with decrementing := on }
      port := { s.port with resp := none } }

/-- The clock and the reads of the Counter: CTR.CLK counts down modulo 65536 while decrementing and otherwise changes
nothing; CTR.ZERO and CTR.READ return (R183, R184, R185). -/
def Obligations.CounterClockAndReads : Prop :=
  ∀ (i : BitVec 8) (s : State) (c : Counter), s.ctr[i.toNat]? = some c →
    decode (0x1B#6 ++ i ++ 0#18) = .ok (.ctrClk i) ∧ decode (0x1C#6 ++ i ++ 0#18) = .ok (.ctrZero i) ∧
    decode (0x1D#6 ++ i ++ 0#18) = .ok (.ctrRead i) ∧
    (c.decrementing = true → exec (.ctrClk i) s = .next { s with
      ctr := s.ctr.set i.toNat { c with counter := c.counter - 1#16 }
      port := { s.port with resp := none } }) ∧
    (c.decrementing = false → exec (.ctrClk i) s = .next { s with port := { s.port with resp := none } }) ∧
    exec (.ctrZero i) s = .next { s with
      port := { s.port with resp := some (if c.counter.toNat = 0 then 1#16 else 0#16) } } ∧
    exec (.ctrRead i) s = .next { s with port := { s.port with resp := some c.counter } }

/-- The Counter law (R199): low byte 0x34 and high byte 0x12 make the counter 0x1234; `k` clocks while decrementing take
it to `(c - k) mod 65536`; from 0x1234, zero comes after exactly 0x1234 clocks within the first 0x1235, and the next is
0xFFFF. -/
def Obligations.CounterLaw : Prop :=
  ∀ (i : BitVec 8) (s : State) (c : Counter), s.ctr[i.toNat]? = some c →
    (c.decrementing = false →
      ∃ t d, execAll [.ctrWlo i 0x34#8, .ctrWhi i 0x12#8] s = .next t ∧ t.ctr[i.toNat]? = some d ∧
        d.counter = 0x1234#16) ∧
    (c.decrementing = true → ∀ k : Nat,
      ∃ t d, execAll (List.replicate k (.ctrClk i)) s = .next t ∧ t.ctr[i.toNat]? = some d ∧
        d.counter.toNat = (c.counter.toNat + 65535 * k) % 65536 ∧
        (c.counter = 0x1234#16 → k ≤ 0x1235 → (isZero d = true ↔ k = 0x1234)) ∧
        (c.counter = 0x1234#16 → k = 0x1235 → d.counter = 0xFFFF#16))

/-! ## The flip-flops -/

/-- The FlipFlop: set, reset, invert, read (R186, R187, R188, R189). -/
def Obligations.FlipFlopOperations : Prop :=
  ∀ (i : BitVec 8) (s : State) (f : FlipFlop), s.ff[i.toNat]? = some f →
    decode (0x20#6 ++ i ++ 0#18) = .ok (.ffSet i) ∧ decode (0x21#6 ++ i ++ 0#18) = .ok (.ffRst i) ∧
    decode (0x22#6 ++ i ++ 0#18) = .ok (.ffInv i) ∧ decode (0x23#6 ++ i ++ 0#18) = .ok (.ffGet i) ∧
    exec (.ffSet i) s = .next { s with ff := s.ff.set i.toNat ⟨true⟩, port := { s.port with resp := none } } ∧
    exec (.ffRst i) s = .next { s with ff := s.ff.set i.toNat ⟨false⟩, port := { s.port with resp := none } } ∧
    exec (.ffInv i) s = .next { s with ff := s.ff.set i.toNat ⟨!f.state⟩, port := { s.port with resp := none } } ∧
    exec (.ffGet i) s = .next { s with port := { s.port with resp := some (if f.state then 1#16 else 0#16) } }

/-- The delay-clocked FlipFlop: set, reset and invert act on the value being latched, the clock pulse makes it
observable, the read returns the observable value (R190, R191, R192, R193, R194). -/
def Obligations.DelayFlipFlopOperations : Prop :=
  ∀ (i : BitVec 8) (s : State) (f : DelayFlipFlop), s.dff[i.toNat]? = some f →
    decode (0x28#6 ++ i ++ 0#18) = .ok (.dffSet i) ∧ decode (0x29#6 ++ i ++ 0#18) = .ok (.dffRst i) ∧
    decode (0x2A#6 ++ i ++ 0#18) = .ok (.dffInv i) ∧ decode (0x2B#6 ++ i ++ 0#18) = .ok (.dffClk i) ∧
    decode (0x2C#6 ++ i ++ 0#18) = .ok (.dffGet i) ∧
    exec (.dffSet i) s = .next { s with
      dff := s.dff.set i.toNat ⟨true, f.outputState⟩, port := { s.port with resp := none } } ∧
    exec (.dffRst i) s = .next { s with
      dff := s.dff.set i.toNat ⟨false, f.outputState⟩, port := { s.port with resp := none } } ∧
    exec (.dffInv i) s = .next { s with
      dff := s.dff.set i.toNat ⟨!f.inputState, f.outputState⟩, port := { s.port with resp := none } } ∧
    exec (.dffClk i) s = .next { s with
      dff := s.dff.set i.toNat ⟨f.inputState, f.inputState⟩, port := { s.port with resp := none } } ∧
    exec (.dffGet i) s = .next { s with
      port := { s.port with resp := some (if f.outputState then 1#16 else 0#16) } }

/-- Inverting twice restores a FlipFlop, and the input of a delay-clocked one (R301 (5)). -/
def Obligations.InvertTwiceRestores : Prop :=
  ∀ (i : BitVec 8) (s : State),
    (∀ f, s.ff[i.toNat]? = some f → ∃ t, execAll [.ffInv i, .ffInv i] s = .next t ∧ t.ff = s.ff) ∧
    (∀ f, s.dff[i.toNat]? = some f → ∃ t, execAll [.dffInv i, .dffInv i] s = .next t ∧ t.dff = s.dff)

/-! ## The gates and the signal contract -/

/-- AND.NOTIFY with a kind that the AndPort is not wired for appends one log entry, of code 1, and changes nothing else
(R195, R243). -/
def Obligations.UnwiredKindIsLogged : Prop :=
  ∀ (i : BitVec 8) (kind : BitVec 5) (level : Bit) (s : State) (c : AndCfg) (p : AndPort),
    s.cfg.andCfg[i.toNat]? = some c → s.andp[i.toNat]? = some p →
    kind ≠ kindCode c.kind1 → kind ≠ kindCode c.kind2 →
    decode (0x30#6 ++ i ++ 0#5 ++ kind ++ 0#7 ++ (if level then 1#1 else 0#1)) = .ok (.andNotify i kind level) ∧
    exec (.andNotify i kind level) s = .next { s with
      out := { s.out with log := s.out.log ++ [⟨.andPortUnknownSignal, i.toNat, kind, level⟩] }
      port := { s.port with resp := none } } ∧
    logCode .andPortUnknownSignal = 1

/-- AND.NOTIFY with a wired kind, on an AndPort whose target is external: the slot takes the level, and the AND of the
slots as just updated is delivered, whether or not it changed (R195). -/
def Obligations.WiredKindSendsTheAnd : Prop :=
  ∀ (i : BitVec 8) (level : Bit) (s : State) (c : AndCfg) (p : AndPort) (e : Nat),
    s.cfg.andCfg[i.toNat]? = some c → s.andp[i.toNat]? = some p → c.target = .ext e → c.kind1 ≠ c.kind2 →
    exec (.andNotify i (kindCode c.kind1) level) s = .next { s with
      andp := s.andp.set i.toNat ⟨level, p.in2⟩
      out := { s.out with notify := s.out.notify ++ [⟨e, c.kindOut, level && p.in2⟩] }
      port := { s.port with resp := none } } ∧
    exec (.andNotify i (kindCode c.kind2) level) s = .next { s with
      andp := s.andp.set i.toNat ⟨p.in1, level⟩
      out := { s.out with notify := s.out.notify ++ [⟨e, c.kindOut, p.in1 && level⟩] }
      port := { s.port with resp := none } }

/-- On a block with well-formed wiring, a delivery ends within `N_AND` nested calls (R223), whatever the state. -/
def Obligations.DeliveryEndsWithinTheChain : Prop :=
  ∀ (s : State) (i : Nat) (kind : BitVec 5) (level : Bit),
    s.cfg.wiringOk = true → s.andp.length = s.cfg.nAnd → i < s.cfg.nAnd →
    ∃ t, andDeliver s.cfg.nAnd s i kind level = some t ∧ ∀ fuel, s.cfg.nAnd ≤ fuel → andDeliver fuel s i kind level = some t

/-- AND.NOTIFY (R195), for every target, on a block whose wiring ends: a kind of neither slot is logged and dropped; a
kind of a slot sets that slot, and the AND of the slots as just updated is delivered to the target, within the step. -/
def Obligations.AndNotifyFollowsItsRule : Prop :=
  ∀ (i : BitVec 8) (kind : BitVec 5) (level : Bit) (s : State) (c : AndCfg) (p : AndPort),
    s.cfg.wiringOk = true → s.andp.length = s.cfg.nAnd → c.kind1 ≠ c.kind2 →
    s.cfg.andCfg[i.toNat]? = some c → s.andp[i.toNat]? = some p →
    decode (0x30#6 ++ i ++ 0#5 ++ kind ++ 0#7 ++ (if level then 1#1 else 0#1)) = .ok (.andNotify i kind level) ∧
    (kind ≠ kindCode c.kind1 → kind ≠ kindCode c.kind2 → exec (.andNotify i kind level) s = .next { s with
      out := { s.out with log := s.out.log ++ [⟨.andPortUnknownSignal, i.toNat, kind, level⟩] }
      port := { s.port with resp := none } }) ∧
    ∀ q : AndPort, (kind = kindCode c.kind1 ∧ q = ⟨level, p.in2⟩) ∨ (kind = kindCode c.kind2 ∧ q = ⟨p.in1, level⟩) →
      ∃ t, notify { s with andp := s.andp.set i.toNat q } c.target c.kindOut (q.in1 && q.in2) = some t ∧
        exec (.andNotify i kind level) s = .next { t with port := { t.port with resp := none } }

/-- `Notify` (R222): an external receiver's delivery is appended to `out.notify` and does nothing else; an AndPort performs
AND.NOTIFY inside the step; a round notifies each receiver, and the first's delivery is complete before the next begins. -/
def Obligations.NotifyFollowsItsRule : Prop :=
  ∀ (kind : SignalKind) (level : Bit) (s : State),
    (∀ e, notify s (.ext e) kind level = some { s with
      out := { s.out with notify := s.out.notify ++ [⟨e, kind, level⟩] } }) ∧
    (∀ (i : BitVec 8) (t : State), notify s (.andPort i.toNat) kind level = some t →
      exec (.andNotify i (kindCode kind) level) s = .next { t with port := { t.port with resp := none } }) ∧
    notifyAll kind level [] s = some s ∧ (∀ r, notifyAll kind level [r] s = notify s r kind level) ∧
    ∀ (rs qs : List Receiver) (u : State), notifyAll kind level rs s = some u →
      notifyAll kind level (rs ++ qs) s = notifyAll kind level qs u

/-- The model's check of the wiring says what R223 asks: the targets exist and the graph of AndPorts has no cycle. -/
def Obligations.WiringCheckIsAcyclicity : Prop :=
  ∀ c : Config, c.wiringOk = true ↔
    (∀ i j, hop c.andCfg i = some j → j < c.nAnd) ∧ ¬∃ i k, hops c.andCfg (k + 1) i = some i

/-- The AndPort law (R200): from both inputs 1, input 1 to 0 and then input 2 to 1 send 0 and 0; an output of 1 is sent
only when both inputs are 1. -/
def Obligations.AndPortLaw : Prop :=
  ∀ (i : BitVec 8) (s : State) (c : AndCfg) (e : Nat),
    s.cfg.andCfg[i.toNat]? = some c → s.andp[i.toNat]? = some ⟨true, true⟩ → c.target = .ext e → c.kind1 ≠ c.kind2 →
    (∃ t, execAll [.andNotify i (kindCode c.kind1) false, .andNotify i (kindCode c.kind2) true] s = .next t ∧
      t.out.notify = s.out.notify ++ [⟨e, c.kindOut, false⟩, ⟨e, c.kindOut, false⟩]) ∧
    ∀ (u v : State) (kind : BitVec 5) (level : Bit), u.cfg = s.cfg → exec (.andNotify i kind level) u = .next v →
      v.out.notify = u.out.notify ++ [⟨e, c.kindOut, true⟩] → v.andp[i.toNat]? = some ⟨true, true⟩

/-- The WireAnd: a line takes the level given, nothing is sent, and the output read is the AND of the lines (R196,
R197). -/
def Obligations.WireAndOperations : Prop :=
  ∀ (i : BitVec 8) (level : Bit) (s : State) (w : WireAnd), s.wand[i.toNat]? = some w →
    decode (0x38#6 ++ i ++ 0#9 ++ 0#1 ++ 0#7 ++ (if level then 1#1 else 0#1)) = .ok (.wandSet i .one level) ∧
    decode (0x38#6 ++ i ++ 0#9 ++ 1#1 ++ 0#7 ++ (if level then 1#1 else 0#1)) = .ok (.wandSet i .two level) ∧
    decode (0x39#6 ++ i ++ 0#18) = .ok (.wandGet i) ∧
    exec (.wandSet i .one level) s = .next { s with
      wand := s.wand.set i.toNat ⟨level, w.line2⟩, port := { s.port with resp := none } } ∧
    exec (.wandSet i .two level) s = .next { s with
      wand := s.wand.set i.toNat ⟨w.line1, level⟩, port := { s.port with resp := none } } ∧
    exec (.wandGet i) s = .next { s with
      port := { s.port with resp := some (if w.line1 = true ∧ w.line2 = true then 1#16 else 0#16) } }

/-- The WireAnd law (R201): grounding either line makes the output 0, and releasing a line makes it the other line's
value. -/
def Obligations.WireAndLaw : Prop :=
  ∀ (i : BitVec 8) (s : State) (w : WireAnd) (line : WireLine), s.wand[i.toNat]? = some w →
    (∃ t, execAll [.wandSet i line false, .wandGet i] s = .next t ∧ t.port.resp = some 0#16) ∧
    ∃ t, execAll [.wandSet i line true, .wandGet i] s = .next t ∧
      t.port.resp = some (if (match line with | .one => w.line2 | .two => w.line1) then 1#16 else 0#16)

/-- An operation on an instance that the block does not have is refused (R99, R198). -/
def Obligations.AbsentInstanceIsRefused : Prop :=
  ∀ (i : BitVec 8) (s : State) (b : Byte) (x : Bit) (k : BitVec 5) (l : WireLine),
    (s.ctr.length ≤ i.toNat → ∀ o ∈ [Instr.ctrWlo i b, .ctrWhi i b, .ctrDec i x, .ctrClk i, .ctrZero i, .ctrRead i],
      exec o s = .refused .noSuchInstance) ∧
    (s.ff.length ≤ i.toNat → ∀ o ∈ [Instr.ffSet i, .ffRst i, .ffInv i, .ffGet i],
      exec o s = .refused .noSuchInstance) ∧
    (s.dff.length ≤ i.toNat → ∀ o ∈ [Instr.dffSet i, .dffRst i, .dffInv i, .dffClk i, .dffGet i],
      exec o s = .refused .noSuchInstance) ∧
    (s.andp.length ≤ i.toNat → exec (.andNotify i k x) s = .refused .noSuchInstance) ∧
    (s.wand.length ≤ i.toNat → ∀ o ∈ [Instr.wandSet i l x, .wandGet i], exec o s = .refused .noSuchInstance)

/-! ## The unsigned helpers -/

/-- The helpers give the unsigned reading of the bits, no byte is sign-extended (R225), and the examples of R226. -/
def Obligations.UnsignedHelpers : Prop :=
  (∀ b : BitVec 8, u8 b.toInt = b.toNat) ∧ (∀ w : BitVec 16, u16 w.toInt = w.toNat) ∧
  u8 (-1) = 255 ∧ u8 (-128) = 128 ∧ u8 127 = 127 ∧ u8 0 = 0 ∧
  u16 (-1) = 65535 ∧ u16 (-32768) = 32768 ∧ u16 0x1234 = 0x1234 ∧
  (∀ b : Byte, (cpuResult b).toNat = b.toNat) ∧ cpuResult 0xFF#8 = 0x0FF#12

end
end

