-- ==== Sys2Proof/Laws/State.lean ====
section
/-! SUPPORT. What each replacement of a component does to each component, by rfl: later proofs rewrite with these and
never unfold an update. -/

namespace Sys2Proof.Machine

variable (s : State)

/-! ## `withBar` -/

@[simp] theorem State.withBar_cfg (x : Barrier) : (s.withBar x).cfg = s.cfg := rfl
@[simp] theorem State.withBar_bar (x : Barrier) : (s.withBar x).bar = x := rfl
@[simp] theorem State.withBar_clk (x : Barrier) : (s.withBar x).clk = s.clk := rfl
@[simp] theorem State.withBar_bus (x : Barrier) : (s.withBar x).bus = s.bus := rfl
@[simp] theorem State.withBar_ctr (x : Barrier) : (s.withBar x).ctr = s.ctr := rfl
@[simp] theorem State.withBar_ff (x : Barrier) : (s.withBar x).ff = s.ff := rfl
@[simp] theorem State.withBar_dff (x : Barrier) : (s.withBar x).dff = s.dff := rfl
@[simp] theorem State.withBar_andp (x : Barrier) : (s.withBar x).andp = s.andp := rfl
@[simp] theorem State.withBar_wand (x : Barrier) : (s.withBar x).wand = s.wand := rfl
@[simp] theorem State.withBar_out (x : Barrier) : (s.withBar x).out = s.out := rfl
@[simp] theorem State.withBar_platform (x : Barrier) : (s.withBar x).platform = s.platform := rfl
@[simp] theorem State.withBar_port (x : Barrier) : (s.withBar x).port = s.port := rfl
@[simp] theorem State.withBar_draws (x : Barrier) : (s.withBar x).draws = s.draws := rfl

/-! ## `withClk` -/

@[simp] theorem State.withClk_cfg (x : Clock) : (s.withClk x).cfg = s.cfg := rfl
@[simp] theorem State.withClk_bar (x : Clock) : (s.withClk x).bar = s.bar := rfl
@[simp] theorem State.withClk_clk (x : Clock) : (s.withClk x).clk = x := rfl
@[simp] theorem State.withClk_bus (x : Clock) : (s.withClk x).bus = s.bus := rfl
@[simp] theorem State.withClk_ctr (x : Clock) : (s.withClk x).ctr = s.ctr := rfl
@[simp] theorem State.withClk_ff (x : Clock) : (s.withClk x).ff = s.ff := rfl
@[simp] theorem State.withClk_dff (x : Clock) : (s.withClk x).dff = s.dff := rfl
@[simp] theorem State.withClk_andp (x : Clock) : (s.withClk x).andp = s.andp := rfl
@[simp] theorem State.withClk_wand (x : Clock) : (s.withClk x).wand = s.wand := rfl
@[simp] theorem State.withClk_out (x : Clock) : (s.withClk x).out = s.out := rfl
@[simp] theorem State.withClk_platform (x : Clock) : (s.withClk x).platform = s.platform := rfl
@[simp] theorem State.withClk_port (x : Clock) : (s.withClk x).port = s.port := rfl
@[simp] theorem State.withClk_draws (x : Clock) : (s.withClk x).draws = s.draws := rfl

/-! ## `withBus` -/

@[simp] theorem State.withBus_cfg (x : Bus) : (s.withBus x).cfg = s.cfg := rfl
@[simp] theorem State.withBus_bar (x : Bus) : (s.withBus x).bar = s.bar := rfl
@[simp] theorem State.withBus_clk (x : Bus) : (s.withBus x).clk = s.clk := rfl
@[simp] theorem State.withBus_bus (x : Bus) : (s.withBus x).bus = x := rfl
@[simp] theorem State.withBus_ctr (x : Bus) : (s.withBus x).ctr = s.ctr := rfl
@[simp] theorem State.withBus_ff (x : Bus) : (s.withBus x).ff = s.ff := rfl
@[simp] theorem State.withBus_dff (x : Bus) : (s.withBus x).dff = s.dff := rfl
@[simp] theorem State.withBus_andp (x : Bus) : (s.withBus x).andp = s.andp := rfl
@[simp] theorem State.withBus_wand (x : Bus) : (s.withBus x).wand = s.wand := rfl
@[simp] theorem State.withBus_out (x : Bus) : (s.withBus x).out = s.out := rfl
@[simp] theorem State.withBus_platform (x : Bus) : (s.withBus x).platform = s.platform := rfl
@[simp] theorem State.withBus_port (x : Bus) : (s.withBus x).port = s.port := rfl
@[simp] theorem State.withBus_draws (x : Bus) : (s.withBus x).draws = s.draws := rfl

/-! ## `withCtr` -/

@[simp] theorem State.withCtr_cfg (i : Nat) (x : Counter) : (s.withCtr i x).cfg = s.cfg := rfl
@[simp] theorem State.withCtr_bar (i : Nat) (x : Counter) : (s.withCtr i x).bar = s.bar := rfl
@[simp] theorem State.withCtr_clk (i : Nat) (x : Counter) : (s.withCtr i x).clk = s.clk := rfl
@[simp] theorem State.withCtr_bus (i : Nat) (x : Counter) : (s.withCtr i x).bus = s.bus := rfl
@[simp] theorem State.withCtr_ctr (i : Nat) (x : Counter) : (s.withCtr i x).ctr = s.ctr.set i x := rfl
@[simp] theorem State.withCtr_ff (i : Nat) (x : Counter) : (s.withCtr i x).ff = s.ff := rfl
@[simp] theorem State.withCtr_dff (i : Nat) (x : Counter) : (s.withCtr i x).dff = s.dff := rfl
@[simp] theorem State.withCtr_andp (i : Nat) (x : Counter) : (s.withCtr i x).andp = s.andp := rfl
@[simp] theorem State.withCtr_wand (i : Nat) (x : Counter) : (s.withCtr i x).wand = s.wand := rfl
@[simp] theorem State.withCtr_out (i : Nat) (x : Counter) : (s.withCtr i x).out = s.out := rfl
@[simp] theorem State.withCtr_platform (i : Nat) (x : Counter) : (s.withCtr i x).platform = s.platform := rfl
@[simp] theorem State.withCtr_port (i : Nat) (x : Counter) : (s.withCtr i x).port = s.port := rfl
@[simp] theorem State.withCtr_draws (i : Nat) (x : Counter) : (s.withCtr i x).draws = s.draws := rfl

/-! ## `withFf` -/

@[simp] theorem State.withFf_cfg (i : Nat) (x : FlipFlop) : (s.withFf i x).cfg = s.cfg := rfl
@[simp] theorem State.withFf_bar (i : Nat) (x : FlipFlop) : (s.withFf i x).bar = s.bar := rfl
@[simp] theorem State.withFf_clk (i : Nat) (x : FlipFlop) : (s.withFf i x).clk = s.clk := rfl
@[simp] theorem State.withFf_bus (i : Nat) (x : FlipFlop) : (s.withFf i x).bus = s.bus := rfl
@[simp] theorem State.withFf_ctr (i : Nat) (x : FlipFlop) : (s.withFf i x).ctr = s.ctr := rfl
@[simp] theorem State.withFf_ff (i : Nat) (x : FlipFlop) : (s.withFf i x).ff = s.ff.set i x := rfl
@[simp] theorem State.withFf_dff (i : Nat) (x : FlipFlop) : (s.withFf i x).dff = s.dff := rfl
@[simp] theorem State.withFf_andp (i : Nat) (x : FlipFlop) : (s.withFf i x).andp = s.andp := rfl
@[simp] theorem State.withFf_wand (i : Nat) (x : FlipFlop) : (s.withFf i x).wand = s.wand := rfl
@[simp] theorem State.withFf_out (i : Nat) (x : FlipFlop) : (s.withFf i x).out = s.out := rfl
@[simp] theorem State.withFf_platform (i : Nat) (x : FlipFlop) : (s.withFf i x).platform = s.platform := rfl
@[simp] theorem State.withFf_port (i : Nat) (x : FlipFlop) : (s.withFf i x).port = s.port := rfl
@[simp] theorem State.withFf_draws (i : Nat) (x : FlipFlop) : (s.withFf i x).draws = s.draws := rfl

/-! ## `withDff` -/

@[simp] theorem State.withDff_cfg (i : Nat) (x : DelayFlipFlop) : (s.withDff i x).cfg = s.cfg := rfl
@[simp] theorem State.withDff_bar (i : Nat) (x : DelayFlipFlop) : (s.withDff i x).bar = s.bar := rfl
@[simp] theorem State.withDff_clk (i : Nat) (x : DelayFlipFlop) : (s.withDff i x).clk = s.clk := rfl
@[simp] theorem State.withDff_bus (i : Nat) (x : DelayFlipFlop) : (s.withDff i x).bus = s.bus := rfl
@[simp] theorem State.withDff_ctr (i : Nat) (x : DelayFlipFlop) : (s.withDff i x).ctr = s.ctr := rfl
@[simp] theorem State.withDff_ff (i : Nat) (x : DelayFlipFlop) : (s.withDff i x).ff = s.ff := rfl
@[simp] theorem State.withDff_dff (i : Nat) (x : DelayFlipFlop) : (s.withDff i x).dff = s.dff.set i x := rfl
@[simp] theorem State.withDff_andp (i : Nat) (x : DelayFlipFlop) : (s.withDff i x).andp = s.andp := rfl
@[simp] theorem State.withDff_wand (i : Nat) (x : DelayFlipFlop) : (s.withDff i x).wand = s.wand := rfl
@[simp] theorem State.withDff_out (i : Nat) (x : DelayFlipFlop) : (s.withDff i x).out = s.out := rfl
@[simp] theorem State.withDff_platform (i : Nat) (x : DelayFlipFlop) : (s.withDff i x).platform = s.platform := rfl
@[simp] theorem State.withDff_port (i : Nat) (x : DelayFlipFlop) : (s.withDff i x).port = s.port := rfl
@[simp] theorem State.withDff_draws (i : Nat) (x : DelayFlipFlop) : (s.withDff i x).draws = s.draws := rfl

/-! ## `withAndp` -/

@[simp] theorem State.withAndp_cfg (i : Nat) (x : AndPort) : (s.withAndp i x).cfg = s.cfg := rfl
@[simp] theorem State.withAndp_bar (i : Nat) (x : AndPort) : (s.withAndp i x).bar = s.bar := rfl
@[simp] theorem State.withAndp_clk (i : Nat) (x : AndPort) : (s.withAndp i x).clk = s.clk := rfl
@[simp] theorem State.withAndp_bus (i : Nat) (x : AndPort) : (s.withAndp i x).bus = s.bus := rfl
@[simp] theorem State.withAndp_ctr (i : Nat) (x : AndPort) : (s.withAndp i x).ctr = s.ctr := rfl
@[simp] theorem State.withAndp_ff (i : Nat) (x : AndPort) : (s.withAndp i x).ff = s.ff := rfl
@[simp] theorem State.withAndp_dff (i : Nat) (x : AndPort) : (s.withAndp i x).dff = s.dff := rfl
@[simp] theorem State.withAndp_andp (i : Nat) (x : AndPort) : (s.withAndp i x).andp = s.andp.set i x := rfl
@[simp] theorem State.withAndp_wand (i : Nat) (x : AndPort) : (s.withAndp i x).wand = s.wand := rfl
@[simp] theorem State.withAndp_out (i : Nat) (x : AndPort) : (s.withAndp i x).out = s.out := rfl
@[simp] theorem State.withAndp_platform (i : Nat) (x : AndPort) : (s.withAndp i x).platform = s.platform := rfl
@[simp] theorem State.withAndp_port (i : Nat) (x : AndPort) : (s.withAndp i x).port = s.port := rfl
@[simp] theorem State.withAndp_draws (i : Nat) (x : AndPort) : (s.withAndp i x).draws = s.draws := rfl

/-! ## `withWand` -/

@[simp] theorem State.withWand_cfg (i : Nat) (x : WireAnd) : (s.withWand i x).cfg = s.cfg := rfl
@[simp] theorem State.withWand_bar (i : Nat) (x : WireAnd) : (s.withWand i x).bar = s.bar := rfl
@[simp] theorem State.withWand_clk (i : Nat) (x : WireAnd) : (s.withWand i x).clk = s.clk := rfl
@[simp] theorem State.withWand_bus (i : Nat) (x : WireAnd) : (s.withWand i x).bus = s.bus := rfl
@[simp] theorem State.withWand_ctr (i : Nat) (x : WireAnd) : (s.withWand i x).ctr = s.ctr := rfl
@[simp] theorem State.withWand_ff (i : Nat) (x : WireAnd) : (s.withWand i x).ff = s.ff := rfl
@[simp] theorem State.withWand_dff (i : Nat) (x : WireAnd) : (s.withWand i x).dff = s.dff := rfl
@[simp] theorem State.withWand_andp (i : Nat) (x : WireAnd) : (s.withWand i x).andp = s.andp := rfl
@[simp] theorem State.withWand_wand (i : Nat) (x : WireAnd) : (s.withWand i x).wand = s.wand.set i x := rfl
@[simp] theorem State.withWand_out (i : Nat) (x : WireAnd) : (s.withWand i x).out = s.out := rfl
@[simp] theorem State.withWand_platform (i : Nat) (x : WireAnd) : (s.withWand i x).platform = s.platform := rfl
@[simp] theorem State.withWand_port (i : Nat) (x : WireAnd) : (s.withWand i x).port = s.port := rfl
@[simp] theorem State.withWand_draws (i : Nat) (x : WireAnd) : (s.withWand i x).draws = s.draws := rfl

/-! ## `withOut` -/

@[simp] theorem State.withOut_cfg (x : Outputs) : (s.withOut x).cfg = s.cfg := rfl
@[simp] theorem State.withOut_bar (x : Outputs) : (s.withOut x).bar = s.bar := rfl
@[simp] theorem State.withOut_clk (x : Outputs) : (s.withOut x).clk = s.clk := rfl
@[simp] theorem State.withOut_bus (x : Outputs) : (s.withOut x).bus = s.bus := rfl
@[simp] theorem State.withOut_ctr (x : Outputs) : (s.withOut x).ctr = s.ctr := rfl
@[simp] theorem State.withOut_ff (x : Outputs) : (s.withOut x).ff = s.ff := rfl
@[simp] theorem State.withOut_dff (x : Outputs) : (s.withOut x).dff = s.dff := rfl
@[simp] theorem State.withOut_andp (x : Outputs) : (s.withOut x).andp = s.andp := rfl
@[simp] theorem State.withOut_wand (x : Outputs) : (s.withOut x).wand = s.wand := rfl
@[simp] theorem State.withOut_out (x : Outputs) : (s.withOut x).out = x := rfl
@[simp] theorem State.withOut_platform (x : Outputs) : (s.withOut x).platform = s.platform := rfl
@[simp] theorem State.withOut_port (x : Outputs) : (s.withOut x).port = s.port := rfl
@[simp] theorem State.withOut_draws (x : Outputs) : (s.withOut x).draws = s.draws := rfl

/-! ## `withPlatform` -/

@[simp] theorem State.withPlatform_cfg (x : Platform) : (s.withPlatform x).cfg = s.cfg := rfl
@[simp] theorem State.withPlatform_bar (x : Platform) : (s.withPlatform x).bar = s.bar := rfl
@[simp] theorem State.withPlatform_clk (x : Platform) : (s.withPlatform x).clk = s.clk := rfl
@[simp] theorem State.withPlatform_bus (x : Platform) : (s.withPlatform x).bus = s.bus := rfl
@[simp] theorem State.withPlatform_ctr (x : Platform) : (s.withPlatform x).ctr = s.ctr := rfl
@[simp] theorem State.withPlatform_ff (x : Platform) : (s.withPlatform x).ff = s.ff := rfl
@[simp] theorem State.withPlatform_dff (x : Platform) : (s.withPlatform x).dff = s.dff := rfl
@[simp] theorem State.withPlatform_andp (x : Platform) : (s.withPlatform x).andp = s.andp := rfl
@[simp] theorem State.withPlatform_wand (x : Platform) : (s.withPlatform x).wand = s.wand := rfl
@[simp] theorem State.withPlatform_out (x : Platform) : (s.withPlatform x).out = s.out := rfl
@[simp] theorem State.withPlatform_platform (x : Platform) : (s.withPlatform x).platform = x := rfl
@[simp] theorem State.withPlatform_port (x : Platform) : (s.withPlatform x).port = s.port := rfl
@[simp] theorem State.withPlatform_draws (x : Platform) : (s.withPlatform x).draws = s.draws := rfl

/-! ## `withPort` -/

@[simp] theorem State.withPort_cfg (x : Port) : (s.withPort x).cfg = s.cfg := rfl
@[simp] theorem State.withPort_bar (x : Port) : (s.withPort x).bar = s.bar := rfl
@[simp] theorem State.withPort_clk (x : Port) : (s.withPort x).clk = s.clk := rfl
@[simp] theorem State.withPort_bus (x : Port) : (s.withPort x).bus = s.bus := rfl
@[simp] theorem State.withPort_ctr (x : Port) : (s.withPort x).ctr = s.ctr := rfl
@[simp] theorem State.withPort_ff (x : Port) : (s.withPort x).ff = s.ff := rfl
@[simp] theorem State.withPort_dff (x : Port) : (s.withPort x).dff = s.dff := rfl
@[simp] theorem State.withPort_andp (x : Port) : (s.withPort x).andp = s.andp := rfl
@[simp] theorem State.withPort_wand (x : Port) : (s.withPort x).wand = s.wand := rfl
@[simp] theorem State.withPort_out (x : Port) : (s.withPort x).out = s.out := rfl
@[simp] theorem State.withPort_platform (x : Port) : (s.withPort x).platform = s.platform := rfl
@[simp] theorem State.withPort_port (x : Port) : (s.withPort x).port = x := rfl
@[simp] theorem State.withPort_draws (x : Port) : (s.withPort x).draws = s.draws := rfl

/-! ## `withDraws` -/

@[simp] theorem State.withDraws_cfg (x : Nat) : (s.withDraws x).cfg = s.cfg := rfl
@[simp] theorem State.withDraws_bar (x : Nat) : (s.withDraws x).bar = s.bar := rfl
@[simp] theorem State.withDraws_clk (x : Nat) : (s.withDraws x).clk = s.clk := rfl
@[simp] theorem State.withDraws_bus (x : Nat) : (s.withDraws x).bus = s.bus := rfl
@[simp] theorem State.withDraws_ctr (x : Nat) : (s.withDraws x).ctr = s.ctr := rfl
@[simp] theorem State.withDraws_ff (x : Nat) : (s.withDraws x).ff = s.ff := rfl
@[simp] theorem State.withDraws_dff (x : Nat) : (s.withDraws x).dff = s.dff := rfl
@[simp] theorem State.withDraws_andp (x : Nat) : (s.withDraws x).andp = s.andp := rfl
@[simp] theorem State.withDraws_wand (x : Nat) : (s.withDraws x).wand = s.wand := rfl
@[simp] theorem State.withDraws_out (x : Nat) : (s.withDraws x).out = s.out := rfl
@[simp] theorem State.withDraws_platform (x : Nat) : (s.withDraws x).platform = s.platform := rfl
@[simp] theorem State.withDraws_port (x : Nat) : (s.withDraws x).port = s.port := rfl
@[simp] theorem State.withDraws_draws (x : Nat) : (s.withDraws x).draws = x := rfl

/-! ## `answered` -/

@[simp] theorem State.answered_cfg (x : Option Word16) : (s.answered x).cfg = s.cfg := rfl
@[simp] theorem State.answered_bar (x : Option Word16) : (s.answered x).bar = s.bar := rfl
@[simp] theorem State.answered_clk (x : Option Word16) : (s.answered x).clk = s.clk := rfl
@[simp] theorem State.answered_bus (x : Option Word16) : (s.answered x).bus = s.bus := rfl
@[simp] theorem State.answered_ctr (x : Option Word16) : (s.answered x).ctr = s.ctr := rfl
@[simp] theorem State.answered_ff (x : Option Word16) : (s.answered x).ff = s.ff := rfl
@[simp] theorem State.answered_dff (x : Option Word16) : (s.answered x).dff = s.dff := rfl
@[simp] theorem State.answered_andp (x : Option Word16) : (s.answered x).andp = s.andp := rfl
@[simp] theorem State.answered_wand (x : Option Word16) : (s.answered x).wand = s.wand := rfl
@[simp] theorem State.answered_out (x : Option Word16) : (s.answered x).out = s.out := rfl
@[simp] theorem State.answered_platform (x : Option Word16) : (s.answered x).platform = s.platform := rfl
@[simp] theorem State.answered_port (x : Option Word16) : (s.answered x).port = { s.port with resp := x } := rfl
@[simp] theorem State.answered_draws (x : Option Word16) : (s.answered x).draws = s.draws := rfl

/-! ## `delivered` -/

@[simp] theorem State.delivered_cfg (x : Notification) : (s.delivered x).cfg = s.cfg := rfl
@[simp] theorem State.delivered_bar (x : Notification) : (s.delivered x).bar = s.bar := rfl
@[simp] theorem State.delivered_clk (x : Notification) : (s.delivered x).clk = s.clk := rfl
@[simp] theorem State.delivered_bus (x : Notification) : (s.delivered x).bus = s.bus := rfl
@[simp] theorem State.delivered_ctr (x : Notification) : (s.delivered x).ctr = s.ctr := rfl
@[simp] theorem State.delivered_ff (x : Notification) : (s.delivered x).ff = s.ff := rfl
@[simp] theorem State.delivered_dff (x : Notification) : (s.delivered x).dff = s.dff := rfl
@[simp] theorem State.delivered_andp (x : Notification) : (s.delivered x).andp = s.andp := rfl
@[simp] theorem State.delivered_wand (x : Notification) : (s.delivered x).wand = s.wand := rfl
@[simp] theorem State.delivered_out (x : Notification) : (s.delivered x).out = { s.out with notify := s.out.notify ++ [x] } := rfl
@[simp] theorem State.delivered_platform (x : Notification) : (s.delivered x).platform = s.platform := rfl
@[simp] theorem State.delivered_port (x : Notification) : (s.delivered x).port = s.port := rfl
@[simp] theorem State.delivered_draws (x : Notification) : (s.delivered x).draws = s.draws := rfl

/-! ## `logged` -/

@[simp] theorem State.logged_cfg (x : LogEntry) : (s.logged x).cfg = s.cfg := rfl
@[simp] theorem State.logged_bar (x : LogEntry) : (s.logged x).bar = s.bar := rfl
@[simp] theorem State.logged_clk (x : LogEntry) : (s.logged x).clk = s.clk := rfl
@[simp] theorem State.logged_bus (x : LogEntry) : (s.logged x).bus = s.bus := rfl
@[simp] theorem State.logged_ctr (x : LogEntry) : (s.logged x).ctr = s.ctr := rfl
@[simp] theorem State.logged_ff (x : LogEntry) : (s.logged x).ff = s.ff := rfl
@[simp] theorem State.logged_dff (x : LogEntry) : (s.logged x).dff = s.dff := rfl
@[simp] theorem State.logged_andp (x : LogEntry) : (s.logged x).andp = s.andp := rfl
@[simp] theorem State.logged_wand (x : LogEntry) : (s.logged x).wand = s.wand := rfl
@[simp] theorem State.logged_out (x : LogEntry) : (s.logged x).out = { s.out with log := s.out.log ++ [x] } := rfl
@[simp] theorem State.logged_platform (x : LogEntry) : (s.logged x).platform = s.platform := rfl
@[simp] theorem State.logged_port (x : LogEntry) : (s.logged x).port = s.port := rfl
@[simp] theorem State.logged_draws (x : LogEntry) : (s.logged x).draws = s.draws := rfl

/-! ## `serving` -/

@[simp] theorem State.serving_cfg (r : Request) (rest : List Request) : (s.serving r rest).cfg = s.cfg := rfl
@[simp] theorem State.serving_bar (r : Request) (rest : List Request) : (s.serving r rest).bar = s.bar := rfl
@[simp] theorem State.serving_clk (r : Request) (rest : List Request) : (s.serving r rest).clk = s.clk := rfl
@[simp] theorem State.serving_bus (r : Request) (rest : List Request) : (s.serving r rest).bus = s.bus := rfl
@[simp] theorem State.serving_ctr (r : Request) (rest : List Request) : (s.serving r rest).ctr = s.ctr := rfl
@[simp] theorem State.serving_ff (r : Request) (rest : List Request) : (s.serving r rest).ff = s.ff := rfl
@[simp] theorem State.serving_dff (r : Request) (rest : List Request) : (s.serving r rest).dff = s.dff := rfl
@[simp] theorem State.serving_andp (r : Request) (rest : List Request) : (s.serving r rest).andp = s.andp := rfl
@[simp] theorem State.serving_wand (r : Request) (rest : List Request) : (s.serving r rest).wand = s.wand := rfl
@[simp] theorem State.serving_out (r : Request) (rest : List Request) : (s.serving r rest).out = s.out := rfl
@[simp] theorem State.serving_platform (r : Request) (rest : List Request) : (s.serving r rest).platform = s.platform := rfl
@[simp] theorem State.serving_port (r : Request) (rest : List Request) : (s.serving r rest).port = { s.port with requests := rest, issuer := some r.issuer } := rfl
@[simp] theorem State.serving_draws (r : Request) (rest : List Request) : (s.serving r rest).draws = s.draws := rfl

end Sys2Proof.Machine
end

