-- ==== Sys2Proof/Laws/Delivery.lean ====
section
/-! SUPPORT. What a delivery, a round of deliveries and an enabled pass of the clock can do. -/

namespace Sys2Proof.Machine

/-- What deliveries may do to a state: AndPort slots change, notifications and log entries are appended, and nothing
else happens (45_operation_classes R305). -/
structure Delivers (s t : State) : Prop where
  rest : t = { s with andp := t.andp, out := t.out }
  count : t.andp.length = s.andp.length
  notify : s.out.notify <+: t.out.notify
  log : s.out.log <+: t.out.log
  fault : t.out.fault = s.out.fault

theorem Delivers.refl (s : State) : Delivers s s := ⟨rfl, rfl, List.prefix_rfl, List.prefix_rfl, rfl⟩

theorem Delivers.trans {s t u : State} (h : Delivers s t) (k : Delivers t u) : Delivers s u where
  rest := by rw [k.rest, h.rest]
  count := k.count.trans h.count
  notify := h.notify.trans k.notify
  log := h.log.trans k.log
  fault := k.fault.trans h.fault

theorem Delivers.withAndp (s : State) (i : Nat) (p : AndPort) : Delivers s (s.withAndp i p) :=
  ⟨rfl, List.length_set, List.prefix_rfl, List.prefix_rfl, rfl⟩

theorem Delivers.delivered (s : State) (n : Notification) : Delivers s (s.delivered n) :=
  ⟨rfl, rfl, List.prefix_append _ _, List.prefix_rfl, rfl⟩

theorem Delivers.logged (s : State) (e : LogEntry) : Delivers s (s.logged e) :=
  ⟨rfl, rfl, List.prefix_rfl, List.prefix_append _ _, rfl⟩

theorem andDeliver_delivers : ∀ {fuel : Nat} {s t : State} {i : Nat} {kind : BitVec 5} {level : Bit},
    andDeliver fuel s i kind level = some t → Delivers s t
  | 0, _, _, _, _, _, h => by cases h
  | fuel + 1, s, t, i, kind, level, h => by
    rw [andDeliver] at h
    split at h
    · rename_i c p _ _
      cases hd : driveSlot c kind level p with
      | none =>
        rw [hd] at h
        cases h
        exact Delivers.logged _ _
      | some p' =>
        rw [hd] at h
        cases ht : c.target with
        | ext e =>
          simp only [ht] at h
          cases h
          exact (Delivers.withAndp s i p').trans (Delivers.delivered _ _)
        | andPort j =>
          simp only [ht] at h
          exact (Delivers.withAndp s i p').trans (andDeliver_delivers h)
    · cases h

theorem notify_delivers {s t : State} {r : Receiver} {kind : SignalKind} {level : Bit}
    (h : notify s r kind level = some t) : Delivers s t := by
  cases r with
  | ext e =>
    cases h
    exact Delivers.delivered _ _
  | andPort i => exact andDeliver_delivers h

theorem notifyAll_delivers {kind : SignalKind} {level : Bit} : ∀ {rs : List Receiver} {s t : State},
    notifyAll kind level rs s = some t → Delivers s t
  | [], _, _, h => by
    cases h
    exact Delivers.refl _
  | r :: rs, s, t, h => by
    rw [notifyAll, Option.bind_eq_some_iff] at h
    obtain ⟨u, hu, ht⟩ := h
    exact (notify_delivers hu).trans (notifyAll_delivers ht)

/-- An enabled pass: the barrier is released and the countdown stepped, and after that deliveries only. -/
theorem tickPass_delivers {s t : State} (h : tickPass s = some t) :
    Delivers ((s.withBar (released s.bar)).withClk { s.clk with tod := nextTod s.cfg.todReload s.clk.tod }) t := by
  unfold tickPass at h
  rw [Option.bind_eq_some_iff] at h
  obtain ⟨u, hu, ht⟩ := h
  have h1 : Delivers ((s.withBar (released s.bar)).withClk { s.clk with tod := nextTod s.cfg.todReload s.clk.tod }) u := by
    split at hu
    · exact notifyAll_delivers hu
    · cases hu
      exact Delivers.refl _
  split at ht
  · exact h1.trans (notifyAll_delivers ht)
  · cases ht
    exact h1

/-- What a delivery keeps of the parameters and the clock. -/
theorem Delivers.cfg {s t : State} (h : Delivers s t) : t.cfg = s.cfg := by rw [h.rest]
theorem Delivers.clk {s t : State} (h : Delivers s t) : t.clk = s.clk := by rw [h.rest]

end Sys2Proof.Machine
end

