-- ==== Sys2Proof/Laws/Encoding.lean ====
section
/-! SUPPORT. Words as numbers: what each field of a word is, and what number each format's word is, so that facts about
encoding and decoding become arithmetic. -/

namespace Sys2Proof

/-- Concatenation as a number. -/
theorem append_toNat {m n : Nat} (x : BitVec m) (y : BitVec n) : (x ++ y).toNat = x.toNat * 2 ^ n + y.toNat := by
  rw [BitVec.toNat_append, Nat.shiftLeft_eq, Nat.mul_comm, Nat.two_pow_add_eq_or_of_lt y.isLt]

/-- A slice as a number. -/
theorem slice_toNat {n : Nat} (w : BitVec n) (lo len : Nat) :
    (w.extractLsb' lo len).toNat = w.toNat / 2 ^ lo % 2 ^ len := by
  rw [BitVec.extractLsb'_toNat, Nat.shiftRight_eq_div_pow]

theorem opcField_toNat (w : ReqWord) : (opcField w).toNat = w.toNat / 2 ^ 26 % 2 ^ 6 := slice_toNat w 26 6
theorem instField_toNat (w : ReqWord) : (instField w).toNat = w.toNat / 2 ^ 18 % 2 ^ 8 := slice_toNat w 18 8
theorem lowByteField_toNat (w : ReqWord) : (lowByteField w).toNat = w.toNat / 2 ^ 0 % 2 ^ 8 := slice_toNat w 0 8
theorem highByteField_toNat (w : ReqWord) : (highByteField w).toNat = w.toNat / 2 ^ 8 % 2 ^ 8 := slice_toNat w 8 8
theorem halfField_toNat (w : ReqWord) : (halfField w).toNat = w.toNat / 2 ^ 0 % 2 ^ 16 := slice_toNat w 0 16
theorem valueField_toNat (w : ReqWord) : (valueField w).toNat = w.toNat / 2 ^ 16 % 2 ^ 8 := slice_toNat w 16 8
theorem kindField_toNat (w : ReqWord) : (kindField w).toNat = w.toNat / 2 ^ 8 % 2 ^ 5 := slice_toNat w 8 5

/-- The must-be-zero test as arithmetic. -/
theorem zeroBits_iff (w : ReqWord) (lo len : Nat) : zeroBits w lo len = true ↔ w.toNat / 2 ^ lo % 2 ^ len = 0 := by
  rw [zeroBits, beq_iff_eq, ← BitVec.toNat_inj, slice_toNat]
  simp

/-- One bit as arithmetic. -/
theorem bitField_iff (w : ReqWord) (n : Nat) : bitField w n = true ↔ w.toNat / 2 ^ n % 2 = 1 := by
  rw [bitField, BitVec.getLsbD, Nat.testBit_eq_decide_div_mod_eq, decide_eq_true_iff]

theorem bit1_toNat (b : Bit) : (bit1 b).toNat = if b then 1 else 0 := by cases b <;> rfl
theorem viewBit_toNat (v : View) : (viewBit v).toNat = if v = .vic then 1 else 0 := by cases v <;> rfl
theorem lineBit_toNat (l : WireLine) : (lineBit l).toNat = if l = .two then 1 else 0 := by cases l <;> rfl

theorem viewField_eq (w : ReqWord) : viewField w = .vic ↔ w.toNat / 2 ^ 25 % 2 = 1 := by
  rw [← bitField_iff, viewField]
  split <;> simp_all

theorem lineField_eq (w : ReqWord) : lineField w = .two ↔ w.toNat / 2 ^ 8 % 2 = 1 := by
  rw [← bitField_iff, lineField]
  split <;> simp_all

theorem wordN_toNat (o : BitVec 6) : (wordN o).toNat = o.toNat * 2 ^ 26 := by
  simp only [wordN, append_toNat, BitVec.toNat_ofNat]
  omega

theorem wordP0_toNat (o : BitVec 6) (i : BitVec 8) : (wordP0 o i).toNat = o.toNat * 2 ^ 26 + i.toNat * 2 ^ 18 := by
  simp only [wordP0, append_toNat, BitVec.toNat_ofNat]
  omega

theorem wordPB_toNat (o : BitVec 6) (i b : BitVec 8) :
    (wordPB o i b).toNat = o.toNat * 2 ^ 26 + i.toNat * 2 ^ 18 + b.toNat := by
  simp only [wordPB, append_toNat, BitVec.toNat_ofNat]
  omega

theorem wordL_toNat (o : BitVec 6) (i : BitVec 8) : (wordL o i).toNat = o.toNat * 2 ^ 26 + i.toNat := by
  simp only [wordL, append_toNat, BitVec.toNat_ofNat]
  omega

/-- What a word decodes to, told by what it satisfies: the must-be-zero test and the operation. -/
theorem guarded_ok {b : Bool} {i j : Instr} : guarded b i = .ok j ↔ b = true ∧ i = j := by
  unfold guarded
  split <;> simp_all

end Sys2Proof
end

