-- ==== Sys2Proof/Laws/Exec.lean ====
section
/-! SUPPORT. For each shared shape of a meaning, what it can do when it answers a next state. -/

namespace Sys2Proof.Machine

@[simp] theorem done_next {s t : State} : done s = .next t ↔ t = s.answered none := by
  simp [done, eq_comm]

@[simp] theorem reply_next {v : Word16} {s t : State} : reply v s = .next t ↔ t = s.answered (some v) := by
  simp [reply, eq_comm]

/-- An operation that carries its caller runs exactly for an agent that exists and is not blocked (30_encoding R99). -/
theorem fromAgent_next {a : BitVec 8} {s t : State} {k : State → Result} : fromAgent a s k = .next t ↔
    a.toNat < s.cfg.nAgents ∧ a.toNat ∉ s.bar.blocked ∧ k s = .next t := by
  unfold fromAgent
  split
  · simp; omega
  · split
    · rename_i h
      simp_all
    · rename_i h
      have : a.toNat < s.cfg.nAgents := by omega
      simp_all

/-- An operation on a Counter runs on an instance that exists. -/
theorem onCounter_next {i : BitVec 8} {s t : State} {k : Counter → Result} :
    onCounter i s k = .next t ↔ ∃ c, s.ctr[i.toNat]? = some c ∧ k c = .next t := by
  unfold onCounter
  split <;> simp_all

theorem onFlipFlop_next {i : BitVec 8} {s t : State} {k : FlipFlop → Result} :
    onFlipFlop i s k = .next t ↔ ∃ f, s.ff[i.toNat]? = some f ∧ k f = .next t := by
  unfold onFlipFlop
  split <;> simp_all

theorem onDelayFlipFlop_next {i : BitVec 8} {s t : State} {k : DelayFlipFlop → Result} :
    onDelayFlipFlop i s k = .next t ↔ ∃ f, s.dff[i.toNat]? = some f ∧ k f = .next t := by
  unfold onDelayFlipFlop
  split <;> simp_all

theorem onWireAnd_next {i : BitVec 8} {s t : State} {k : WireAnd → Result} :
    onWireAnd i s k = .next t ↔ ∃ w, s.wand[i.toNat]? = some w ∧ k w = .next t := by
  unfold onWireAnd
  split <;> simp_all

/-- Taking the fault answers a next state in which `out.fault` is recorded and nothing else of the block differs. -/
theorem takeFault_next {f : Fault} {i : Instr} {s t : State} : takeFault f i s = .next t ↔
    t = (s.withOut { s.out with fault := some (s.out.fault.getD ⟨f, encode i⟩) }).answered none := done_next

/-- A pass of the clock is idle, or releases, counts down and delivers (41_clock R142). -/
theorem execTick_next {s t : State} (h : execTick s = .next t) :
    (tickEnabled s.cfg s.clk s.bar = false ∧ t = s.answered none) ∨
    (tickEnabled s.cfg s.clk s.bar = true ∧ ∃ u, tickPass s = some u ∧ t = u.answered none) := by
  unfold execTick at h
  split at h
  · split at h
    · cases h
      exact .inr ⟨‹_›, _, ‹_›, rfl⟩
    · cases h
  · rename_i he
    cases h
    exact .inl ⟨by simpa using he, rfl⟩

/-- A notification of an AndPort delivers (43_logic_primitives R195). -/
theorem execAndNotify_next {s t : State} {i : BitVec 8} {kind : BitVec 5} {level : Bit}
    (h : execAndNotify i kind level s = .next t) :
    ∃ u, andDeliver s.cfg.nAnd s i.toNat kind level = some u ∧ t = u.answered none := by
  unfold execAndNotify at h
  split at h
  · split at h
    · cases h
      exact ⟨_, ‹_›, rfl⟩
    · cases h
  · cases h

end Sys2Proof.Machine
end

