-- ==== Sys2Proof/Laws/Memory.lean ====
section
/-! SUPPORT. The storage bytes: every operation keeps the canonical form, a read after a write gives the byte written at
its key and the byte before everywhere else. -/

namespace Sys2Proof.Machine

theorem Memory.wfFrom_cons {lo k : Nat} {b : Byte} {m : Memory} :
    Memory.wfFrom lo ((k, b) :: m) = true ↔ lo ≤ k ∧ b ≠ unlistedByte ∧ Memory.wfFrom (k + 1) m = true := by
  simp [Memory.wfFrom, and_assoc]

/-- A canonical list is canonical from any lower bound. -/
theorem Memory.wfFrom_mono {lo lo' : Nat} (h : lo ≤ lo') : ∀ {m : Memory}, Memory.wfFrom lo' m = true → Memory.wfFrom lo m = true
  | [], _ => rfl
  | (_, _) :: _, hm => by
    rw [Memory.wfFrom_cons] at hm ⊢
    exact ⟨h.trans hm.1, hm.2⟩

/-- A key below every listed key reads as unlisted. -/
theorem Memory.read_of_lt : ∀ {m : Memory} {lo a : Nat}, Memory.wfFrom lo m = true → a < lo → Memory.read m a = unlistedByte
  | [], _, _, _, _ => rfl
  | (k, b) :: m, lo, a, hm, h => by
    rw [Memory.wfFrom_cons] at hm
    rw [Memory.read, if_neg (by omega)]
    exact Memory.read_of_lt hm.2.2 (by omega)

theorem Memory.wfFrom_write : ∀ {m : Memory} {lo a : Nat} {v : Byte}, Memory.wfFrom lo m = true → lo ≤ a →
    Memory.wfFrom lo (Memory.write m a v) = true
  | [], lo, a, v, _, ha => by
    rw [Memory.write]
    split
    · rfl
    · rw [Memory.wfFrom_cons]
      exact ⟨ha, ‹_›, rfl⟩
  | (k, b) :: m, lo, a, v, hm, ha => by
    have hm' := Memory.wfFrom_cons.mp hm
    rw [Memory.write]
    split
    · split
      · exact hm
      · exact Memory.wfFrom_cons.mpr ⟨ha, ‹_›, Memory.wfFrom_cons.mpr ⟨by omega, hm'.2⟩⟩
    · split
      · split
        · exact Memory.wfFrom_mono (by omega) hm'.2.2
        · exact Memory.wfFrom_cons.mpr ⟨ha, ‹_›, ‹a = k› ▸ hm'.2.2⟩
      · exact Memory.wfFrom_cons.mpr ⟨hm'.1, hm'.2.1, Memory.wfFrom_write hm'.2.2 (by omega)⟩

/-- A write keeps the canonical form. -/
theorem Memory.wf_write {m : Memory} (h : Memory.wf m = true) (a : Nat) (v : Byte) :
    Memory.wf (Memory.write m a v) = true :=
  Memory.wfFrom_write h (Nat.zero_le a)

@[simp] theorem Memory.read_nil (a : Nat) : Memory.read [] a = unlistedByte := rfl

@[simp] theorem Memory.read_cons (k a : Nat) (b : Byte) (m : Memory) :
    Memory.read ((k, b) :: m) a = if k = a then b else Memory.read m a := rfl

/-- A write leaves every other key alone. -/
theorem Memory.read_write_other : ∀ (m : Memory) {a b : Nat} (v : Byte), b ≠ a →
    Memory.read (Memory.write m a v) b = Memory.read m b
  | [], a, b, v, h => by
    rw [Memory.write]
    split
    · rfl
    · rw [Memory.read_cons, if_neg (Ne.symm h)]
  | (k, c) :: m, a, b, v, h => by
    rw [Memory.write]
    split
    · split
      · rfl
      · rw [Memory.read_cons, if_neg (Ne.symm h)]
    · split
      · rename_i hk
        subst hk
        split <;> simp [Ne.symm h]
      · rw [Memory.read_cons, Memory.read_cons, Memory.read_write_other m v h]

theorem Memory.read_writeFrom : ∀ {m : Memory} {lo : Nat} (a : Nat) (v : Byte), Memory.wfFrom lo m = true →
    Memory.read (Memory.write m a v) a = v
  | [], _, a, v, _ => by
    rw [Memory.write]
    split
    · rename_i h
      rw [h, Memory.read]
    · rw [Memory.read, if_pos rfl]
  | (k, c) :: m, lo, a, v, hm => by
    have hm' := Memory.wfFrom_cons.mp hm
    rw [Memory.write]
    split
    · split
      · rename_i hlt hv
        rw [hv]
        exact Memory.read_of_lt (Memory.wfFrom_cons.mpr ⟨Nat.le_refl k, hm'.2⟩) hlt
      · rw [Memory.read, if_pos rfl]
    · split
      · rename_i hk
        split
        · rename_i hv
          rw [hv]
          exact Memory.read_of_lt hm'.2.2 (by omega)
        · rw [Memory.read, if_pos rfl]
      · rename_i hk
        rw [Memory.read, if_neg (Ne.symm hk)]
        exact Memory.read_writeFrom a v hm'.2.2

/-- A read after a write to the same key gives the byte written. -/
theorem Memory.read_write_same {m : Memory} (h : Memory.wf m = true) (a : Nat) (v : Byte) :
    Memory.read (Memory.write m a v) a = v :=
  Memory.read_writeFrom a v h

/-- A read after a write, at any key. -/
theorem Memory.read_write {m : Memory} (h : Memory.wf m = true) (a b : Nat) (v : Byte) :
    Memory.read (Memory.write m a v) b = if b = a then v else Memory.read m b := by
  split
  · subst b
    exact Memory.read_write_same h a v
  · exact Memory.read_write_other m v ‹_›

/-- Equal keys are the same device's byte at the same address. -/
theorem cellKey_inj {d d' : Nat} {x y : Addr} : cellKey d x = cellKey d' y ↔ d = d' ∧ x = y := by
  have hx := x.isLt
  have hy := y.isLt
  constructor
  · intro h
    unfold cellKey at h
    exact ⟨by omega, BitVec.eq_of_toNat_eq (by omega)⟩
  · rintro ⟨rfl, rfl⟩
    rfl

/-- A write through any handler keeps the canonical form. -/
theorem writtenMem_wf {m : Memory} (h : Memory.wf m = true) (w : WriteHandler) (addr : Addr) (v : Byte) :
    Memory.wf (writtenMem m w addr v) = true := by
  cases w with
  | storage d => exact Memory.wf_write h _ _
  | null => exact h
  | ext e => exact h

@[simp] theorem pageRead_mem (p : Platform) (h : ReadHandler) (addr : Addr) : (pageRead p h addr).2.mem = p.mem := rfl
@[simp] theorem colorRead_mem (p : Platform) (c : ColorRef) (addr : Addr) : (colorRead p c addr).2.mem = p.mem := rfl
@[simp] theorem pageWrite_mem (p : Platform) (h : WriteHandler) (addr : Addr) (v : Byte) :
    (pageWrite p h addr v).mem = writtenMem p.mem h addr v := rfl
@[simp] theorem pageRead_calls (p : Platform) (h : ReadHandler) (addr : Addr) :
    (pageRead p h addr).2.calls = p.calls ++ [.read h addr] := rfl
@[simp] theorem colorRead_calls (p : Platform) (c : ColorRef) (addr : Addr) :
    (colorRead p c addr).2.calls = p.calls ++ [.color c addr] := rfl
@[simp] theorem pageWrite_calls (p : Platform) (h : WriteHandler) (addr : Addr) (v : Byte) :
    (pageWrite p h addr v).calls = p.calls ++ [.write h addr v] := rfl

end Sys2Proof.Machine
end

