-- ==== Sys2Proof/Laws/PerInstr.lean ====
section
/-! SUPPORT. For every operation: its word matches its own row of the opcode map (30_encoding R96), whatever its
operands. -/

namespace Sys2Proof.Laws.MatchesRow

/-- The word of `i` matches the row of the opcode map that stands for `i`. -/
def Statement (i : Instr) : Prop := matchesRow (encode i) (opcodeRows.getD (rowIndex i) (0, 0)) = true

/-- A conjunction of concatenations, field by field. -/
theorem and3 {a b c : Nat} (x p : BitVec a) (y q : BitVec b) (z r : BitVec c) :
    (x ++ y ++ z) &&& (p ++ q ++ r) = (x &&& p) ++ (y &&& q) ++ (z &&& r) := by
  rw [BitVec.and_append, BitVec.and_append]

theorem and4 {a b c d : Nat} (x p : BitVec a) (y q : BitVec b) (z r : BitVec c) (u s : BitVec d) :
    (x ++ y ++ z ++ u) &&& (p ++ q ++ r ++ s) = (x &&& p) ++ (y &&& q) ++ (z &&& r) ++ (u &&& s) := by
  rw [BitVec.and_append, and3]

theorem and5 {a b c d e : Nat} (x p : BitVec a) (y q : BitVec b) (z r : BitVec c) (u s : BitVec d) (v t : BitVec e) :
    (x ++ y ++ z ++ u ++ v) &&& (p ++ q ++ r ++ s ++ t)
      = (x &&& p) ++ (y &&& q) ++ (z &&& r) ++ (u &&& s) ++ (v &&& t) := by
  rw [BitVec.and_append, and4]

theorem and6 {a b c d e f : Nat} (x p : BitVec a) (y q : BitVec b) (z r : BitVec c) (u s : BitVec d) (v t : BitVec e)
    (w o : BitVec f) :
    (x ++ y ++ z ++ u ++ v ++ w) &&& (p ++ q ++ r ++ s ++ t ++ o)
      = (x &&& p) ++ (y &&& q) ++ (z &&& r) ++ (u &&& s) ++ (v &&& t) ++ (w &&& o) := by
  rw [BitVec.and_append, and5]

/-- A field that the mask keeps. -/
theorem kept {n : Nat} (x : BitVec n) : x &&& BitVec.allOnes n = x := BitVec.and_allOnes

/-- A field that the mask drops. -/
theorem dropped {n : Nat} (x : BitVec n) : x &&& 0#n = 0#n := BitVec.and_zero

/-- A word of format A or P0 matches a row with that format's mask. -/
theorem of_wordP0 {o : BitVec 6} (a : BitVec 8) {m : ReqWord} (h : wordP0 o 0#8 = m) :
    matchesRow (wordP0 o a) (0xFC03FFFF#32, m) = true := by
  have hm : 0xFC03FFFF#32 = BitVec.allOnes 6 ++ 0#8 ++ BitVec.allOnes 18 := by decide
  rw [← h, matchesRow, beq_iff_eq, hm]
  exact (and3 _ _ _ _ _ _).trans (by rw [kept, dropped, kept]; rfl)

theorem of_wordL {o : BitVec 6} (a : BitVec 8) {m : ReqWord} (h : wordL o 0#8 = m) :
    matchesRow (wordL o a) (0xFFFFFF00#32, m) = true := by
  have hm : 0xFFFFFF00#32 = BitVec.allOnes 6 ++ BitVec.allOnes 18 ++ 0#8 := by decide
  rw [← h, matchesRow, beq_iff_eq, hm]
  exact (and3 _ _ _ _ _ _).trans (by rw [kept, kept, dropped]; rfl)

theorem of_wordPB {o : BitVec 6} (a b : BitVec 8) {m : ReqWord} (h : wordPB o 0#8 0#8 = m) :
    matchesRow (wordPB o a b) (0xFC03FF00#32, m) = true := by
  have hm : 0xFC03FF00#32 = BitVec.allOnes 6 ++ 0#8 ++ BitVec.allOnes 10 ++ 0#8 := by decide
  rw [← h, matchesRow, beq_iff_eq, hm]
  exact (and4 _ _ _ _ _ _ _ _).trans (by rw [kept, dropped, kept, dropped]; rfl)

theorem announce (a : BitVec 8) : Statement (.announce a) := of_wordP0 a (by decide)
theorem wait (a : BitVec 8) : Statement (.wait a) := of_wordP0 a (by decide)
theorem release : Statement .release := by
  unfold Statement
  decide
theorem allfin : Statement .allfin := by
  unfold Statement
  decide
theorem start : Statement .start := by
  unfold Statement
  decide
theorem stop : Statement .stop := by
  unfold Statement
  decide
theorem tick : Statement .tick := by
  unfold Statement
  decide
theorem getrate : Statement .getrate := by
  unfold Statement
  decide
theorem isinit : Statement .isinit := by
  unfold Statement
  decide
theorem todreg (id : BitVec 8) : Statement (.todreg id) := of_wordL id (by decide)
theorem setvic (id : BitVec 8) : Statement (.setvic id) := of_wordL id (by decide)
theorem setcolor (id : BitVec 8) : Statement (.setcolor id) := of_wordL id (by decide)

theorem setrate (imm : Word16) : Statement (.setrate imm) := by
  have hm : 0xFFFF0000#32 = BitVec.allOnes 6 ++ BitVec.allOnes 10 ++ 0#16 := by decide
  show (((0x0B#6 ++ 0#10 ++ imm) &&& 0xFFFF0000#32) == 0x2C000000#32) = true
  rw [hm, beq_iff_eq]
  exact (and3 _ _ _ _ _ _).trans (by rw [kept, kept, dropped]; decide)

theorem setcpu (r w : BitVec 8) : Statement (.setcpu r w) := by
  have hm : 0xFFFF0000#32 = BitVec.allOnes 6 ++ BitVec.allOnes 10 ++ 0#8 ++ 0#8 := by decide
  show (((0x13#6 ++ 0#10 ++ r ++ w) &&& 0xFFFF0000#32) == 0x4C000000#32) = true
  rw [hm, beq_iff_eq]
  exact (and4 _ _ _ _ _ _ _ _).trans (by rw [kept, kept, dropped, dropped]; decide)

theorem store (addr : Addr) (value : Byte) (view : View) (aec : Bit) : Statement (.store addr value view aec) := by
  have hm : 0xFC000000#32 = BitVec.allOnes 6 ++ 0#1 ++ 0#1 ++ 0#8 ++ 0#16 := by decide
  show (((0x10#6 ++ viewBit view ++ bit1 aec ++ value ++ addr) &&& 0xFC000000#32) == 0x40000000#32) = true
  rw [hm, beq_iff_eq]
  exact (and5 _ _ _ _ _ _ _ _ _ _).trans (by rw [kept, dropped, dropped, dropped, dropped]; decide)

theorem load (addr : Addr) (view : View) (aec : Bit) : Statement (.load addr view aec) := by
  have hm : 0xFCFF0000#32 = BitVec.allOnes 6 ++ 0#1 ++ 0#1 ++ BitVec.allOnes 8 ++ 0#16 := by decide
  show (((0x11#6 ++ viewBit view ++ bit1 aec ++ 0#8 ++ addr) &&& 0xFCFF0000#32) == 0x44000000#32) = true
  rw [hm, beq_iff_eq]
  exact (and5 _ _ _ _ _ _ _ _ _ _).trans (by rw [kept, dropped, dropped, kept, dropped]; decide)

theorem ctrWlo (i : BitVec 8) (b : Byte) : Statement (.ctrWlo i b) := of_wordPB i b (by decide)
theorem ctrWhi (i : BitVec 8) (b : Byte) : Statement (.ctrWhi i b) := of_wordPB i b (by decide)

theorem ctrDec (i : BitVec 8) (on : Bit) : Statement (.ctrDec i on) := by
  have hm : 0xFC03FFFE#32 = BitVec.allOnes 6 ++ 0#8 ++ BitVec.allOnes 17 ++ 0#1 := by decide
  show (((0x1A#6 ++ i ++ 0#17 ++ bit1 on) &&& 0xFC03FFFE#32) == 0x68000000#32) = true
  rw [hm, beq_iff_eq]
  exact (and4 _ _ _ _ _ _ _ _).trans (by rw [kept, dropped, kept, dropped]; decide)

theorem ctrClk (i : BitVec 8) : Statement (.ctrClk i) := of_wordP0 i (by decide)
theorem ctrZero (i : BitVec 8) : Statement (.ctrZero i) := of_wordP0 i (by decide)
theorem ctrRead (i : BitVec 8) : Statement (.ctrRead i) := of_wordP0 i (by decide)
theorem ffSet (i : BitVec 8) : Statement (.ffSet i) := of_wordP0 i (by decide)
theorem ffRst (i : BitVec 8) : Statement (.ffRst i) := of_wordP0 i (by decide)
theorem ffInv (i : BitVec 8) : Statement (.ffInv i) := of_wordP0 i (by decide)
theorem ffGet (i : BitVec 8) : Statement (.ffGet i) := of_wordP0 i (by decide)
theorem dffSet (i : BitVec 8) : Statement (.dffSet i) := of_wordP0 i (by decide)
theorem dffRst (i : BitVec 8) : Statement (.dffRst i) := of_wordP0 i (by decide)
theorem dffInv (i : BitVec 8) : Statement (.dffInv i) := of_wordP0 i (by decide)
theorem dffClk (i : BitVec 8) : Statement (.dffClk i) := of_wordP0 i (by decide)
theorem dffGet (i : BitVec 8) : Statement (.dffGet i) := of_wordP0 i (by decide)

theorem andNotify (i : BitVec 8) (kind : BitVec 5) (level : Bit) : Statement (.andNotify i kind level) := by
  have hm : 0xFC03E0FE#32 = BitVec.allOnes 6 ++ 0#8 ++ BitVec.allOnes 5 ++ 0#5 ++ BitVec.allOnes 7 ++ 0#1 := by decide
  show (((0x30#6 ++ i ++ 0#5 ++ kind ++ 0#7 ++ bit1 level) &&& 0xFC03E0FE#32) == 0xC0000000#32) = true
  rw [hm, beq_iff_eq]
  exact (and6 _ _ _ _ _ _ _ _ _ _ _ _).trans (by rw [kept, dropped, kept, dropped, kept, dropped]; decide)

theorem wandSet (i : BitVec 8) (line : WireLine) (level : Bit) : Statement (.wandSet i line level) := by
  have hm : 0xFC03FEFE#32 = BitVec.allOnes 6 ++ 0#8 ++ BitVec.allOnes 9 ++ 0#1 ++ BitVec.allOnes 7 ++ 0#1 := by decide
  show (((0x38#6 ++ i ++ 0#9 ++ lineBit line ++ 0#7 ++ bit1 level) &&& 0xFC03FEFE#32) == 0xE0000000#32) = true
  rw [hm, beq_iff_eq]
  exact (and6 _ _ _ _ _ _ _ _ _ _ _ _).trans (by rw [kept, dropped, kept, dropped, kept, dropped]; decide)

theorem wandGet (i : BitVec 8) : Statement (.wandGet i) := of_wordP0 i (by decide)

end Sys2Proof.Laws.MatchesRow
end

