-- ==== Sys2Proof/Laws/Port.lean ====
section
/-! SUPPORT. The request port, the set of blocked agents, and what one step can do. -/

namespace Sys2Proof.Machine

theorem mem_insertAgent {a b : Nat} : ∀ {l : List Nat}, b ∈ insertAgent a l ↔ b = a ∨ b ∈ l
  | [] => by simp [insertAgent]
  | c :: l => by
    rw [insertAgent]
    split
    · simp
    · split
      · rename_i h
        subst h
        simp
      · simp only [List.mem_cons, mem_insertAgent]
        tauto

/-- Adding an agent keeps the set in its one form. -/
theorem insertAgent_rising {a : Nat} : ∀ {l : List Nat}, l.Pairwise (· < ·) → (insertAgent a l).Pairwise (· < ·)
  | [], _ => by simp [insertAgent]
  | c :: l, h => by
    have hc := List.pairwise_cons.mp h
    rw [insertAgent]
    split
    · refine List.pairwise_cons.mpr ⟨fun b hb => ?_, h⟩
      rcases List.mem_cons.mp hb with rfl | hb
      · assumption
      · exact Nat.lt_trans ‹a < c› (hc.1 b hb)
    · split
      · exact h
      · refine List.pairwise_cons.mpr ⟨fun b hb => ?_, insertAgent_rising hc.2⟩
        rcases mem_insertAgent.mp hb with rfl | hb
        · omega
        · exact hc.1 b hb

theorem mayStep_false {blocked : List Nat} {a : Agent} : mayStep blocked a = false ↔ ∃ b ∈ blocked, a = .chip b := by
  cases a <;> simp [mayStep]

theorem mayStep_true {blocked : List Nat} {a : Agent} : mayStep blocked a = true ↔ ∀ b, a = .chip b → b ∉ blocked := by
  cases a <;> simp [mayStep]

/-- A request is held exactly where its issuer is blocked and it is no ANNOUNCE and no WAIT. -/
theorem takesUp_false {blocked : List Nat} {r : Request} :
    takesUp blocked r = false ↔ mayStep blocked r.issuer = false ∧ namesCaller r.word = false := by
  simp [takesUp]

/-- The request served is the first that the port takes up; the others stay presented, in their order. -/
theorem nextRequest_some {blocked : List Nat} {r : Request} : ∀ {rs rest : List Request},
    nextRequest blocked rs = some (r, rest) →
      takesUp blocked r = true ∧
      ∃ held after, rs = held ++ r :: after ∧ rest = held ++ after ∧ ∀ q ∈ held, takesUp blocked q = false
  | [], _, h => by cases h
  | q :: rs, rest, h => by
    rw [nextRequest] at h
    split at h
    · cases h
      exact ⟨‹_›, [], _, rfl, rfl, by simp⟩
    · rename_i hq
      obtain ⟨⟨r', rest'⟩, h', heq⟩ := Option.map_eq_some_iff.mp h
      cases heq
      obtain ⟨hr, held, after, rfl, rfl, hall⟩ := nextRequest_some h'
      refine ⟨hr, q :: held, after, rfl, rfl, fun p hp => ?_⟩
      rcases List.mem_cons.mp hp with rfl | hp
      · simpa using hq
      · exact hall p hp

/-- No request is served exactly where every presented request is held. -/
theorem nextRequest_none {blocked : List Nat} : ∀ {rs : List Request},
    nextRequest blocked rs = none ↔ ∀ q ∈ rs, takesUp blocked q = false
  | [] => by simp [nextRequest]
  | q :: rs => by
    rw [nextRequest]
    split
    · rename_i h
      simp [h]
    · rename_i h
      simp [Option.map_eq_none_iff, nextRequest_none, h]

/-- Refusing a blocked caller answers no next state and no fault. -/
theorem refuseBlocked_refused (i : Instr) (s : State) :
    refuseBlocked i s = .refused .noSuchAgent ∨ refuseBlocked i s = .refused .agentBlocked := by
  unfold refuseBlocked
  split
  · split <;> simp
  · simp

/-- What a step can do: nothing, where no request is taken up; otherwise it performs the next request, whose issuer is
not blocked. -/
theorem step_next {s t : State} (h : step s = .next t) :
    (nextRequest s.bar.blocked s.port.requests = none ∧ t = s) ∨
    ∃ r rest i, nextRequest s.bar.blocked s.port.requests = some (r, rest) ∧ decode r.word = .ok i ∧
      mayStep s.bar.blocked r.issuer = true ∧ exec i (s.serving r rest) = .next t := by
  unfold step at h
  split at h
  · cases h
    exact .inl ⟨‹_›, rfl⟩
  · split at h
    · cases h
    · split at h
      · exact .inr ⟨_, _, _, ‹_›, ‹_›, ‹_›, h⟩
      · rcases refuseBlocked_refused _ s with hr | hr <;> rw [hr] at h <;> cases h

end Sys2Proof.Machine
end

