-- ==== Sys2Proof/Machine/Asm.lean ====
section
/-! DEFINITION. The written form of requests (30_encoding R101) and the pseudo-operations (R102). -/

namespace Sys2Proof.Machine

/-- A number in hexadecimal with at least `n` digits. -/
def hex (n v : Nat) : String :=
  let ds := (Nat.toDigits 16 v).map Char.toUpper
  "0x" ++ String.ofList (List.replicate (n - ds.length) '0' ++ ds)

/-- A level, or any bit, as 0 or 1. -/
def bitText (b : Bit) : String := if b then "1" else "0"

/-- The name of a signal kind code, or its number where it names none (30_encoding R95). -/
def kindText (k : BitVec 5) : String :=
  (["RESET", "IRQ", "NMI", "RDY", "AEC", "BA", "SP", "CNT", "TOD", "FLAG", "LORAM", "HIRAM", "CHAREN", "VA14", "VA15",
    "GAME", "EXROM", "DMA"][k.toNat]?).getD (toString k.toNat)

/-- A view as written. -/
def viewText : View → String
  | .cpu => "CPU"
  | .vic => "VIC"

/-- A WireAnd line as written: 1 or 2. -/
def lineText : WireLine → String
  | .one => "1"
  | .two => "2"

/-- The mnemonic of an operation (R96) and its operands in the written order (R101). -/
def asmParts : Instr → String × List String
  | .announce a => ("ANNOUNCE", [toString a.toNat])
  | .wait a => ("WAIT", [toString a.toNat])
  | .release => ("RELEASE", [])
  | .allfin => ("ALLFIN", [])
  | .start => ("START", [])
  | .stop => ("STOP", [])
  | .tick => ("TICK", [])
  | .setrate r => ("SETRATE", [hex 4 r.toNat])
  | .getrate => ("GETRATE", [])
  | .todreg id => ("TODREG", [toString id.toNat])
  | .store addr value view aec => ("STORE", [hex 4 addr.toNat, hex 2 value.toNat, viewText view, bitText aec])
  | .load addr view aec => ("LOAD", [hex 4 addr.toNat, viewText view, bitText aec])
  | .isinit => ("ISINIT", [])
  | .setcpu r w => ("SETCPU", [toString r.toNat, toString w.toNat])
  | .setvic id => ("SETVIC", [toString id.toNat])
  | .setcolor id => ("SETCOLOR", [toString id.toNat])
  | .ctrWlo i b => ("CTR.WLO", [toString i.toNat, hex 2 b.toNat])
  | .ctrWhi i b => ("CTR.WHI", [toString i.toNat, hex 2 b.toNat])
  | .ctrDec i on => ("CTR.DEC", [toString i.toNat, bitText on])
  | .ctrClk i => ("CTR.CLK", [toString i.toNat])
  | .ctrZero i => ("CTR.ZERO", [toString i.toNat])
  | .ctrRead i => ("CTR.READ", [toString i.toNat])
  | .ffSet i => ("FF.SET", [toString i.toNat])
  | .ffRst i => ("FF.RST", [toString i.toNat])
  | .ffInv i => ("FF.INV", [toString i.toNat])
  | .ffGet i => ("FF.GET", [toString i.toNat])
  | .dffSet i => ("DFF.SET", [toString i.toNat])
  | .dffRst i => ("DFF.RST", [toString i.toNat])
  | .dffInv i => ("DFF.INV", [toString i.toNat])
  | .dffClk i => ("DFF.CLK", [toString i.toNat])
  | .dffGet i => ("DFF.GET", [toString i.toNat])
  | .andNotify i kind level => ("AND.NOTIFY", [toString i.toNat, kindText kind, bitText level])
  | .wandSet i line level => ("WAND.SET", [toString i.toNat, lineText line, bitText level])
  | .wandGet i => ("WAND.GET", [toString i.toNat])

/-- `MNEMONIC operand, operand, ...` (R101). -/
def asm (i : Instr) : String :=
  match asmParts i with
  | (m, []) => m
  | (m, ops) => m ++ " " ++ String.intercalate ", " ops

/-- `TICKS n` (R102). -/
def pseudoTicks (n : Nat) : List Instr := List.replicate n .tick

/-- `WAND.GND i, line` (R102). -/
def pseudoGround (i : BitVec 8) (line : WireLine) : List Instr := [.wandSet i line false]

/-- `WAND.REL i, line` (R102). -/
def pseudoRelease (i : BitVec 8) (line : WireLine) : List Instr := [.wandSet i line true]

end Sys2Proof.Machine
end

