-- ==== Sys2Proof/Tests/Slice0.lean ====
section
/-! SUPPORT. Tests: each check of well-formedness refuses an ill-formed term, words decode as 95_test_vectors section 3.1
writes them, one step of each operation does what the vectors of sections 3.2 to 3.9 write, and every statement that has
hypotheses has a state that meets them. Expected values come from spec/95_test_vectors.md and from the rules. -/

namespace Sys2Proof.Tests
open Sys2Proof Sys2Proof.Machine
set_option Elab.async false

/-! ## Helpers -/

/-- What `f` reads after the operations of a list; none where one of them has no next state. -/
def after {α : Type} (is : List Instr) (s : State) (f : State → α) : Option α :=
  match execAll is s with
  | .next t => some (f t)
  | _ => none

/-- Why an operation is refused, if it is. -/
def refusalOf (i : Instr) (s : State) : Option Refusal :=
  match exec i s with
  | .refused r => some r
  | _ => none

/-- Why a step is refused, if it is. -/
def stepRefusal (s : State) : Option Refusal :=
  match step s with
  | .refused r => some r
  | _ => none

/-- The response of the request last served. -/
def resp (s : State) : Option Word16 := s.port.resp

/-- The pair of 95_test_vectors section 1 that keeps runs short: `TOD_RELOAD = 4`, `TOD_MID = 2`. -/
def short : Config := { Config.reference with todReload := 4 }

/-- The same in strict lock-step. -/
def strict : Config := { short with lockstep := .strict }

/-- A table with every page of `RAM`. -/
def ramRd : ReadTable := pageTable 0 0 (by decide) (.storage 0) (.storage 0)

/-- The same for writing. -/
def ramWr : WriteTable := pageTable 0 0 (by decide) (.storage 0) (.storage 0)

/-- The start of V-BUS-1 to V-BUS-14: initialised, two bytes of RAM, `bus.prev = 0x3C`. -/
def onBus : State :=
  { State.reset with
    bus := ⟨0x3C#8, some ramRd, some ramWr, some ramRd, some .col⟩
    platform := ⟨[(0x0400, 0x5A#8), (0x0401, 0x3C#8)], []⟩ }

/-- A barrier over reset. -/
def barred (b : Barrier) : State := { State.reset with bar := b }

/-- A running clock over the short configuration. -/
def clocked (c : Config) (tod : Nat) (targets : List Receiver) (b : Barrier) : State :=
  { State.resetWith c with clk := ⟨.pal, 0x0100#16, true, tod, targets⟩, bar := b }

/-- One Counter over reset. -/
def counting (c : Counter) : State := { State.reset with ctr := [c] }

/-- Requests presented over a state. -/
def asked (s : State) (rs : List Request) : State := { s with port := ⟨rs, none, none⟩ }

/-! ## Well-formedness -/

theorem test_wf_reference : Config.reference.wf = true := by decide +kernel
theorem test_wf_noAgents : ({ Config.reference with nAgents := 0 } : Config).wf = false := by decide +kernel
theorem test_wf_manyAgents : ({ Config.reference with nAgents := 257 } : Config).wf = false := by decide +kernel
theorem test_wf_manyInstances :
    [({ Config.reference with nCtr := 257 } : Config), { Config.reference with nFf := 257 },
      { Config.reference with nDff := 257 }, { Config.reference with nWand := 257 },
      { Config.reference with andCfg := List.replicate 257 ⟨.tod, .cnt, .flag, .ext 0⟩ }].all (!·.wf) = true := by
  decide +kernel
theorem test_wf_todOdd : ({ Config.reference with todReload := 5 } : Config).wf = false := by decide +kernel
theorem test_wf_todZero : ({ Config.reference with todReload := 0 } : Config).wf = false := by decide +kernel
theorem test_wf_sameKinds :
    ({ Config.reference with andCfg := [⟨.tod, .tod, .flag, .ext 0⟩] } : Config).wf = false := by decide +kernel
theorem test_wf_selfLoop :
    ({ Config.reference with andCfg := [⟨.tod, .cnt, .flag, .andPort 0⟩] } : Config).wf = false := by decide +kernel
theorem test_wf_cycle :
    ({ Config.reference with andCfg := [⟨.tod, .cnt, .flag, .andPort 1⟩, ⟨.irq, .nmi, .cnt, .andPort 0⟩] } : Config).wf
      = false := by decide +kernel
theorem test_wf_absentTarget :
    ({ Config.reference with andCfg := [⟨.tod, .cnt, .flag, .andPort 7⟩] } : Config).wf = false := by decide +kernel
theorem test_wf_absentReceiver :
    ({ Config.reference with targetBank := [(0#8, [.andPort 2])] } : Config).wf = false := by decide +kernel
theorem test_wf_storageForm :
    [({ Config.reference with storageInit := [(5, 0x00#8)] } : Config),
      { Config.reference with storageInit := [(5, 1#8), (5, 2#8)] },
      { Config.reference with storageInit := [(6, 1#8), (5, 2#8)] }].all (!·.wf) = true := by decide +kernel

/-- One ill-formed request for each check of `Instr.wf`: agent, list, tables, colour, and each kind of instance. -/
theorem test_wf_requests :
    [Instr.announce 2#8, .wait 2#8, .todreg 4#8, .setcpu 1#8 1#8, .setcpu 0#8 0#8, .setvic 1#8, .setcolor 1#8,
      .ctrWlo 1#8 0#8, .ctrWhi 1#8 0#8, .ctrDec 1#8 true, .ctrClk 1#8, .ctrZero 1#8, .ctrRead 1#8,
      .ffSet 1#8, .ffRst 1#8, .ffInv 1#8, .ffGet 1#8, .dffSet 1#8, .dffRst 1#8, .dffInv 1#8, .dffClk 1#8, .dffGet 1#8,
      .andNotify 2#8 8#5 false, .wandSet 1#8 .one true, .wandGet 1#8].all (!·.wf Config.reference) = true := by
  decide +kernel

/-- At the last number that exists each is well formed. -/
theorem test_wf_requests_boundary :
    [Instr.announce 1#8, .wait 1#8, .todreg 3#8, .setcpu 2#8 3#8, .setvic 2#8, .setcolor 0#8, .ctrClk 0#8, .ffSet 0#8,
      .dffSet 0#8, .andNotify 1#8 31#5 false, .wandGet 0#8].all (·.wf Config.reference) = true := by decide +kernel

/-! ## Decoding: V-ENC -/

theorem test_dec_barrier :
    decode 0x07FC0000#32 = .ok (.announce 255#8) ∧ decode 0x08040000#32 = .ok (.wait 1#8) ∧
    decode 0x0C000000#32 = .ok .release ∧ decode 0x10000000#32 = .ok .allfin := by decide
theorem test_dec_clock :
    decode 0x20000000#32 = .ok .start ∧ decode 0x24000000#32 = .ok .stop ∧ decode 0x28000000#32 = .ok .tick ∧
    decode 0x2C000080#32 = .ok (.setrate 0x0080#16) ∧ decode 0x2C00FF00#32 = .ok (.setrate 0xFF00#16) ∧
    decode 0x30000000#32 = .ok .getrate ∧ decode 0x340000FF#32 = .ok (.todreg 255#8) := by decide
theorem test_dec_bus :
    decode 0x43FFFFFF#32 = .ok (.store 0xFFFF#16 0xFF#8 .vic true) ∧
    decode 0x4700FFFF#32 = .ok (.load 0xFFFF#16 .vic true) ∧ decode 0x48000000#32 = .ok .isinit ∧
    decode 0x4C00FFFE#32 = .ok (.setcpu 255#8 254#8) ∧ decode 0x50000002#32 = .ok (.setvic 2#8) ∧
    decode 0x54000000#32 = .ok (.setcolor 0#8) := by decide
theorem test_dec_bus_fields :
    decode 0x41AB1234#32 = .ok (.store 0x1234#16 0xAB#8 .cpu true) ∧
    decode 0x40AB1234#32 = .ok (.store 0x1234#16 0xAB#8 .cpu false) ∧
    decode 0x46000401#32 = .ok (.load 0x0401#16 .vic false) ∧
    decode 0x45000402#32 = .ok (.load 0x0402#16 .cpu true) := by decide
theorem test_dec_counter :
    decode 0x60000034#32 = .ok (.ctrWlo 0#8 0x34#8) ∧ decode 0x64000012#32 = .ok (.ctrWhi 0#8 0x12#8) ∧
    decode 0x68000001#32 = .ok (.ctrDec 0#8 true) ∧ decode 0x68000000#32 = .ok (.ctrDec 0#8 false) ∧
    decode 0x6C000000#32 = .ok (.ctrClk 0#8) ∧ decode 0x70FC0000#32 = .ok (.ctrZero 63#8) ∧
    decode 0x74040000#32 = .ok (.ctrRead 1#8) := by decide
theorem test_dec_flipflops :
    decode 0x80000000#32 = .ok (.ffSet 0#8) ∧ decode 0x84000000#32 = .ok (.ffRst 0#8) ∧
    decode 0x88000000#32 = .ok (.ffInv 0#8) ∧ decode 0x8C000000#32 = .ok (.ffGet 0#8) ∧
    decode 0xA0000000#32 = .ok (.dffSet 0#8) ∧ decode 0xA4000000#32 = .ok (.dffRst 0#8) ∧
    decode 0xA8000000#32 = .ok (.dffInv 0#8) ∧ decode 0xAC080000#32 = .ok (.dffClk 2#8) ∧
    decode 0xB0000000#32 = .ok (.dffGet 0#8) := by decide
theorem test_dec_gates :
    decode 0xC0041101#32 = .ok (.andNotify 1#8 17#5 true) ∧ decode 0xC0001F01#32 = .ok (.andNotify 0#8 31#5 true) ∧
    decode 0xE0000100#32 = .ok (.wandSet 0#8 .two false) ∧ decode 0xE00C0001#32 = .ok (.wandSet 3#8 .one true) ∧
    decode 0xE4000000#32 = .ok (.wandGet 0#8) := by decide
/-- V-ENC-30 to V-ENC-43. -/
theorem test_dec_illegal :
    ([0x00000000, 0xFFFFFFFF, 0x14000000, 0x0C000001, 0x30000001, 0x04000001, 0x04020000, 0x44010000, 0x2C010000,
      0x34000100, 0x60000134, 0x68000002, 0xC0002000, 0xE0000200] : List ReqWord).all
        (fun w => (decode w).toOption.isNone) = true := by decide
/-- 30_encoding R101: operations as the spec writes them. -/
theorem test_asm :
    asm (.setrate 0x0080#16) = "SETRATE 0x0080" ∧ asm (.store 0x0400#16 0x5A#8 .cpu true) = "STORE 0x0400, 0x5A, CPU, 1" ∧
    asm (.andNotify 1#8 17#5 true) = "AND.NOTIFY 1, DMA, 1" ∧ asm .release = "RELEASE" := by decide +kernel

/-! ## The barrier: V-BAR -/

theorem test_announce_next : after [.announce 1#8] (barred ⟨1, 1, []⟩) (·.bar) = some ⟨2, 1, []⟩ := by decide +kernel
theorem test_announce_blocked :
    refusalOf (.announce 0#8) (barred ⟨0, 0, [0]⟩) = some .agentBlocked := by decide +kernel
theorem test_wait_counts : after [.wait 0#8] (barred ⟨2, 1, [1]⟩) (·.bar) = some ⟨2, 0, [0, 1]⟩ ∧
    after [.wait 0#8] State.reset (·.bar) = some ⟨0, 0, [0]⟩ := by decide +kernel
theorem test_wait_refused :
    refusalOf (.wait 0#8) (barred ⟨0, 0, [0]⟩) = some .agentBlocked ∧
    refusalOf (.wait 2#8) State.reset = some .noSuchAgent := by decide +kernel
theorem test_release_wakes : after [.release] (barred ⟨2, 0, [0, 1]⟩) (·.bar) = some ⟨2, 2, []⟩ := by decide +kernel
theorem test_allfin_reports :
    after [.allfin] (barred ⟨2, 0, [0, 1]⟩) resp = some (some 1#16) ∧
    after [.allfin] (barred ⟨2, 1, [1]⟩) resp = some (some 0#16) := by decide +kernel

/-! ## The clock: V-CLK -/

theorem test_start_reset : after [.start] State.reset (fun s => (s.clk.running, s.clk.tod)) = some (true, 160000) := by
  decide +kernel
theorem test_stop_keeps : after [.stop] (clocked Config.reference 5 [] ⟨0, 0, []⟩)
    (fun s => (s.clk.running, s.clk.tod)) = some (false, 5) := by decide +kernel
theorem test_tick_falling : after [.tick] (clocked Config.reference 80001 [.ext 0] ⟨1, 0, [0]⟩)
    (fun s => (s.clk.tod, s.bar, s.out.notify)) = some (80000, ⟨1, 1, []⟩, [⟨0, .tod, false⟩]) := by decide +kernel
theorem test_tick_chain :
    after [.tick] { clocked Config.reference 1 [.andPort 0, .ext 1] ⟨0, 0, []⟩ with andp := [⟨true, false⟩, ⟨true, true⟩] }
      (fun s => (s.clk.tod, s.andp, s.out.notify))
      = some (160000, [⟨true, false⟩, ⟨true, true⟩], [⟨0, .flag, false⟩, ⟨1, .tod, true⟩]) := by decide +kernel
theorem test_setrate_negative : after [.setrate 0x8000#16, .getrate] State.reset resp = some (some 0x0100#16) := by
  decide +kernel
theorem test_setrate_greatest : after [.setrate 0x7FFF#16, .getrate] State.reset resp = some (some 0x7FFF#16) := by
  decide +kernel
theorem test_getrate_reset : after [.getrate] State.reset resp = some (some 0x0100#16) := by decide +kernel
theorem test_todreg_replaces : after [.todreg 3#8] State.reset (·.clk.targets) = some [.ext 0, .ext 1] := by
  decide +kernel
theorem test_todreg_absent : refusalOf (.todreg 4#8) State.reset = some .noSuchBankEntry := by decide +kernel

/-! ## The bus: V-BUS -/

theorem test_store_honoured : after [.store 0x1234#16 0xAB#8 .cpu true] onBus
    (fun s => (s.bus.prev, s.platform.mem)) = some (0xAB#8, [(0x0400, 0x5A#8), (0x0401, 0x3C#8), (0x1234, 0xAB#8)]) := by
  decide +kernel
theorem test_store_dropped :
    after [.store 0x1234#16 0xAB#8 .vic false] onBus (fun s => (s.bus.prev, s.platform)) = some (0x3C#8, onBus.platform) ∧
    after [.setcpu 2#8 3#8, .store 0xD012#16 0x99#8 .cpu true] onBus (fun s => (s.bus.prev, s.platform.mem))
      = some (0x99#8, onBus.platform.mem) := by decide +kernel
theorem test_load_driven :
    after [.load 0x0400#16 .cpu true] onBus (fun s => (s.port.resp, s.bus.prev)) = some (some 0x05A#16, 0x5A#8) ∧
    after [.load 0x0401#16 .vic false] onBus (fun s => (s.port.resp, s.bus.prev)) = some (some 0x83C#16, 0x3C#8) ∧
    after [.setcpu 2#8 3#8, .load 0xD012#16 .cpu true] onBus resp = some (some 0x0B7#16) := by decide +kernel
theorem test_load_floating :
    after [.load 0x0400#16 .cpu false] onBus (fun s => (s.port.resp, s.bus.prev)) = some (some 0x0FF#16, 0x3C#8) ∧
    after [.load 0x0400#16 .vic true] onBus (fun s => (s.port.resp, s.bus.prev)) = some (some 0xCFF#16, 0x3C#8) := by
  decide +kernel
theorem test_fault_first_kept :
    after [.load 0x0000#16 .cpu false, .store 0x0000#16 0x00#8 .vic true] State.reset (·.out.fault)
      = some (some ⟨.busNotInitialized, 0x44000000#32⟩) := by decide +kernel
theorem test_isinit_reports :
    after [.setcolor 0#8, .setvic 2#8, .isinit] State.reset resp = some (some 0#16) ∧
    after [.setcolor 0#8, .setvic 2#8, .setcpu 0#8 1#8, .isinit] State.reset resp = some (some 1#16) := by decide +kernel
theorem test_setcpu_wrongTag : refusalOf (.setcpu 1#8 0#8) State.reset = some .noSuchBankEntry := by decide +kernel
theorem test_setcpu_both : after [.setcpu 2#8 3#8] State.reset
    (fun s => (s.bus.cpuRd.map fun t => [handlerAt t 0xCFFF#16, handlerAt t 0xD000#16, handlerAt t 0xE000#16],
      s.bus.cpuWr.map fun t => [handlerAt t 0xCFFF#16, handlerAt t 0xDFFF#16, handlerAt t 0xE000#16]))
    = some (some [.storage 0, .romx, .storage 0], some [.storage 0, .null, .storage 0]) := by decide +kernel
theorem test_setvic_table :
    after [.setvic 2#8] State.reset (fun s => s.bus.vicRd.map fun t => [handlerAt t 0xCFFF#16, handlerAt t 0xD000#16])
      = some (some [.storage 0, .romx]) ∧
    refusalOf (.setvic 1#8) State.reset = some .noSuchBankEntry := by decide +kernel
theorem test_setcolor_reference : after [.setcolor 0#8] State.reset (·.bus.color) = some (some .col) ∧
    refusalOf (.setcolor 1#8) State.reset = some .noSuchBankEntry := by decide +kernel

/-! ## The primitives: V-CTR, V-FF, V-DFF, V-AND, V-WAND -/

theorem test_ctrWlo_keeps : after [.ctrWlo 0#8 0x34#8] (counting ⟨0xBEEF#16, 0xFFFF#16, false, false⟩) (·.ctr)
    = some [⟨0xBEEF#16, 0xFF34#16, false, false⟩] := by decide +kernel
theorem test_ctrWhi_reloads : after [.ctrWhi 0#8 0x12#8] (counting ⟨0#16, 0xFF34#16, false, false⟩) (·.ctr)
    = some [⟨0x1234#16, 0x1234#16, false, false⟩] := by decide +kernel
/-- V-CTR-9: the two fields the spec fixes; `pending_reload` is a draw. -/
theorem test_ctrWhi_decrementing : after [.ctrWlo 0#8 0x00#8, .ctrWhi 0#8 0x80#8]
    (counting ⟨0xFFFF#16, 0x1234#16, true, false⟩) (fun s => s.ctr.map fun c => (c.counter, c.latch))
    = some [(0xFFFF#16, 0x8000#16)] := by decide +kernel
theorem test_ctrDec_only : after [.ctrDec 0#8 true] (counting ⟨0x1234#16, 0x1234#16, false, true⟩) (·.ctr)
    = some [⟨0x1234#16, 0x1234#16, true, true⟩] := by decide +kernel
theorem test_ctrClk_wraps : after [.ctrClk 0#8] (counting ⟨0#16, 0x1234#16, true, false⟩) (·.ctr)
    = some [⟨0xFFFF#16, 0x1234#16, true, false⟩] := by decide +kernel
theorem test_ctrClk_absent : refusalOf (.ctrClk 1#8) State.reset = some .noSuchInstance := by decide +kernel
theorem test_ctrZero_allBits :
    after [.ctrZero 0#8] (counting ⟨0x8000#16, 0#16, true, false⟩) resp = some (some 0#16) ∧
    after [.ctrZero 0#8] (counting ⟨0#16, 0xFFFF#16, true, false⟩) resp = some (some 1#16) := by decide +kernel
theorem test_ctrRead_visible : after [.ctrRead 0#8] (counting ⟨0xBEEF#16, 0#16, true, false⟩) resp = some (some 0xBEEF#16) := by
  decide +kernel
theorem test_ff : after [.ffSet 0#8, .ffGet 0#8] State.reset resp = some (some 1#16) ∧
    after [.ffSet 0#8, .ffRst 0#8] State.reset (·.ff) = some [⟨false⟩] ∧
    after [.ffInv 0#8] State.reset (·.ff) = some [⟨true⟩] := by decide +kernel
theorem test_ff_absent : refusalOf (.ffSet 1#8) State.reset = some .noSuchInstance := by decide +kernel
theorem test_dff_delays : after [.dffSet 0#8, .dffGet 0#8] State.reset (fun s => (s.dff, s.port.resp))
    = some ([⟨true, false⟩], some 0#16) ∧
    after [.dffSet 0#8, .dffClk 0#8, .dffRst 0#8, .dffGet 0#8] State.reset (fun s => (s.dff, s.port.resp))
    = some ([⟨false, true⟩], some 1#16) := by decide +kernel
theorem test_dffInv_input : after [.dffInv 0#8] { State.reset with dff := [⟨false, true⟩] } (·.dff) = some [⟨true, true⟩] := by
  decide +kernel
theorem test_andNotify_chain : after [.andNotify 1#8 2#5 false] State.reset (fun s => (s.andp, s.out.notify))
    = some ([⟨true, false⟩, ⟨true, false⟩], [⟨0, .flag, false⟩]) := by decide +kernel
theorem test_andNotify_logged : after [.andNotify 1#8 7#5 true] State.reset (fun s => (s.andp, s.out))
    = some ([⟨true, true⟩, ⟨true, true⟩], ⟨[], [⟨.andPortUnknownSignal, 1, 7#5, true⟩], none⟩) := by decide +kernel
theorem test_wandSet_grounds : after [.wandSet 0#8 .two false] State.reset (fun s => (s.wand, s.out.notify))
    = some ([⟨true, false⟩], []) := by decide +kernel
theorem test_wandGet_and : after [.wandGet 0#8] { State.reset with wand := [⟨true, false⟩] } resp = some (some 0#16) ∧
    after [.wandGet 0#8] State.reset resp = some (some 1#16) := by decide +kernel

/-! ## The port -/

theorem test_step_serves : ∃ t, step (asked State.reset [⟨.chip 1, 0x08040000#32⟩]) = .next t ∧
    t.bar.blocked = [1] ∧ t.port.requests = [] := ⟨_, rfl, by decide, by decide⟩
/-- A blocked agent's LOAD (V-BUS-24's word) is held; the host's RELEASE after it is served. -/
theorem test_step_holds_blocked :
    ∃ t, step (asked (barred ⟨2, 1, [1]⟩) [⟨.chip 1, 0x44000000#32⟩, ⟨.host, 0x0C000000#32⟩]) = .next t ∧
      t.bar.blocked = [] ∧ t.port.requests = [⟨.chip 1, 0x44000000#32⟩] := ⟨_, rfl, by decide, by decide⟩
/-- P2 step 22: a WAIT that the blocked agent itself presents; an absent number first, and another agent's number. -/
theorem test_step_refuses_blocked :
    stepRefusal (asked (barred ⟨2, 1, [0]⟩) [⟨.chip 0, 0x08000000#32⟩]) = some .agentBlocked ∧
    stepRefusal (asked (barred ⟨2, 1, [0]⟩) [⟨.chip 0, 0x08080000#32⟩]) = some .noSuchAgent ∧
    stepRefusal (asked (barred ⟨2, 1, [0]⟩) [⟨.chip 0, 0x04040000#32⟩]) = some .agentBlocked := by decide +kernel
/-- V-ENC-32, then a good request: the harness marks the refusal and goes on (60_exceptions R244). -/
theorem test_harness_marks :
    (HarnessRun.serveMany 2 ⟨asked State.reset [⟨.host, 0x14000000#32⟩, ⟨.host, 0x20000000#32⟩], []⟩).refusals
      = [.illegalRequest] ∧
    (HarnessRun.serveMany 2 ⟨asked State.reset [⟨.host, 0x14000000#32⟩, ⟨.host, 0x20000000#32⟩], []⟩).state.clk.running
      = true := by decide +kernel
theorem test_wide_word : decodeTableWord 40 0x10C000000 = none ∧ decodeTableWord 32 0x0C000000 = some .release := by decide

/-! ## Witnesses: for each statement with hypotheses, a state and operands that meet them -/

/-- A block in use: the short strict configuration, two agents pending, a running clock with a chain of AndPorts. -/
def busy : State := clocked strict 3 [.andPort 0, .ext 1] ⟨2, 2, []⟩

theorem busy_inv : busy.Inv := by constructor <;> decide +kernel
theorem onBus_inv : onBus.Inv := by constructor <;> decide +kernel
/-- A block whose next enabled TICK sends a rising round to an AndPort and an external receiver. -/
theorem edge_inv : (clocked short 1 [.andPort 0, .ext 1] ⟨1, 0, [0]⟩).Inv := by constructor <;> decide +kernel

theorem witness_EncodeDecodeRoundTrip : decode 0x08040000#32 = .ok (.wait 1#8) := by decide
theorem witness_StepRunsTheDecodedRequest :
    nextRequest [0] [⟨.chip 0, 0x44000000#32⟩, ⟨.chip 1, 0x08040000#32⟩]
      = some (⟨.chip 1, 0x08040000#32⟩, [⟨.chip 0, 0x44000000#32⟩]) ∧ decode 0x08040000#32 = .ok (.wait 1#8) ∧ 1 ∉ [0] := by
  decide
theorem witness_UnmatchedWordIsRefused :
    nextRequest [] [⟨.host, 0x14000000#32⟩] = some (⟨.host, 0x14000000#32⟩, []) ∧
    opcodeRows.all (fun row => !matchesRow 0x14000000#32 row) = true := by decide
theorem witness_BlockedAgentHasNoStep_refused :
    nextRequest [1] [⟨.chip 1, 0x08040000#32⟩, ⟨.clock, 0x28000000#32⟩]
      = some (⟨.chip 1, 0x08040000#32⟩, [⟨.clock, 0x28000000#32⟩]) ∧ 1 ∈ [1] := by decide
theorem witness_BlockedAgentHasNoStep_passedOver :
    nextRequest [1] [⟨.chip 1, 0x44000000#32⟩, ⟨.clock, 0x28000000#32⟩]
      = some (⟨.clock, 0x28000000#32⟩, [⟨.chip 1, 0x44000000#32⟩]) := by decide
theorem witness_BlockedAgentHasNoStep_held :
    (∃ b ∈ [1], (Agent.chip 1) = .chip b) ∧ decode 0x44000000#32 = .ok (.load 0#16 .cpu false) := by decide
theorem witness_CompletesExactlyWhenAdmitted : busy.Inv ∧ Instr.wf busy.cfg (.wait 1#8) = true ∧
    Instr.wf busy.cfg (.wait 2#8) = false := ⟨busy_inv, by decide, by decide⟩
theorem witness_RefusalsAreThoseOfThePort :
    (asked busy [⟨.chip 0, 0x08080000#32⟩]).Inv ∧ step (asked busy [⟨.chip 0, 0x08080000#32⟩]) = .refused .noSuchAgent :=
  ⟨by constructor <;> decide +kernel, rfl⟩
theorem witness_ResetValues : 0 < Config.reference.nCtr ∧ 1 < Config.reference.nAnd := by decide
/-- A configuration that construction answers for, and one that it refuses. -/
theorem witness_ConstructionGivesTheInvariant : construct strict = .ok (State.resetWith strict) ∧
    construct { strict with todReload := 5 } = .error .badConfiguration := by
  have h : strict.wf = true := by decide +kernel
  have k : ({ strict with todReload := 5 } : Config).wf = false := by decide +kernel
  simp [construct, h, k]
theorem witness_StepKeepsTheInvariant : (asked busy [⟨.clock, 0x28000000#32⟩]).Inv ∧
    ∃ t, step (asked busy [⟨.chip 0, 0x08000000#32⟩]) = .next t ∧ t.bar = ⟨2, 1, [0]⟩ :=
  ⟨by constructor <;> decide +kernel, _, rfl, by decide⟩
theorem witness_PendingCountsTheWaits : busy.bar.pending ≤ busy.bar.expected ∧ [0#8, 1#8].Nodup ∧
    ∀ a ∈ [0#8, 1#8], a.toNat < busy.cfg.nAgents := by decide
theorem witness_ParametersNeverChange : ∃ t, step (asked busy [⟨.host, 0x24000000#32⟩]) = .next t ∧ t.clk.running = false :=
  ⟨_, rfl, rfl⟩
theorem witness_OutputsGrowAndFaultSticks :
    ∃ t, step (asked { State.reset with out := ⟨[], [], some ⟨.busNotInitialized, 0x44000000#32⟩⟩ }
      [⟨.chip 0, 0x43000000#32⟩]) = .next t ∧ t.out.fault = some ⟨.busNotInitialized, 0x44000000#32⟩ := ⟨_, rfl, rfl⟩
theorem witness_FaultRecordsTheServedWord :
    nextRequest [] [⟨.chip 0, 0x44000000#32⟩] = some (⟨.chip 0, 0x44000000#32⟩, []) ∧
    ∃ t, step (asked State.reset [⟨.chip 0, 0x44000000#32⟩]) = .next t ∧ t.out.fault ≠ State.reset.out.fault :=
  ⟨rfl, _, rfl, by decide⟩
theorem witness_OnlyWaitSuspends : ∃ t, exec (.wait 1#8) busy = .next t ∧ 1 ∈ t.bar.blocked ∧ 1 ∉ busy.bar.blocked :=
  ⟨_, rfl, by decide, by decide⟩
theorem witness_OnlyReleaseWakes : ∃ t, exec .release (barred ⟨2, 0, [0, 1]⟩) = .next t ∧ 1 ∉ t.bar.blocked :=
  ⟨_, rfl, by decide⟩
theorem witness_OnlyDrivenAccessesTouchLatchAndPlatform :
    ∃ t, exec (.store 0x1234#16 0xAB#8 .cpu true) onBus = .next t ∧ t.bus.prev ≠ onBus.bus.prev := ⟨_, rfl, by decide⟩
theorem witness_OnlyTickAndNotifySend : ∃ t, exec (.wandSet 0#8 .one false) State.reset = .next t ∧
    notifies (.wandSet 0#8 .one false) = false := ⟨_, rfl, rfl⟩
theorem witness_CountdownAndBarrierOwners : ∃ t, exec .tick (clocked short 1 [.ext 0] ⟨1, 0, [0]⟩) = .next t ∧
    t.clk.tod ≠ 1 ∧ t.bar ≠ ⟨1, 0, [0]⟩ := ⟨_, rfl, by decide, by decide⟩
theorem witness_BusOperationsIgnoreTheRest : isBusOp (.load 0x0400#16 .vic false) = true ∧
    ({ onBus with clk := ⟨.pal, 0#16, true, 7, []⟩ } : State).bus = onBus.bus ∧
    ∃ t, exec (.load 0x0400#16 .vic false) onBus = .next t := ⟨rfl, rfl, _, rfl⟩
theorem witness_AnnounceCountsOneMore : (barred ⟨2, 1, [1]⟩).cfg.nAgents ≤ (2#8).toNat ∧
    ((1#8).toNat < State.reset.cfg.nAgents ∧ (1#8).toNat ∈ [1]) ∧ (0#8).toNat < State.reset.cfg.nAgents ∧
    (0#8).toNat ∉ [1] := by decide
theorem witness_WaitBlocksTheCaller : (barred ⟨2, 0, [0]⟩).cfg.nAgents ≤ (2#8).toNat ∧
    ((0#8).toNat < State.reset.cfg.nAgents ∧ (0#8).toNat ∈ [0]) ∧ (1#8).toNat < State.reset.cfg.nAgents ∧
    (1#8).toNat ∉ [0] := by decide
theorem witness_TickIdlesWhenNotEnabled : State.reset.clk.running = false ∧
    (busy.clk.running = true ∧ busy.cfg.lockstep = .strict ∧ 0 < busy.bar.pending) := by decide
theorem witness_EnabledTickNotifiesTheTargets :
    let s := clocked short 1 [.ext 0, .ext 1] ⟨1, 1, []⟩
    let u := clocked strict 3 [.ext 0] ⟨1, 0, [0]⟩
    (s.clk.running = true ∧ s.cfg.lockstep = .bestEffort ∧ 1 ≤ s.clk.tod ∧ s.clk.targets = [0, 1].map .ext ∧ s.clk.tod - 1 = 0) ∧
    (u.clk.running = true ∧ u.bar.pending = 0 ∧ 1 ≤ u.clk.tod ∧ u.clk.targets = [0].map .ext ∧ u.clk.tod - 1 = u.cfg.todReload / 2) := by
  decide
/-- At the rising edge, at the falling edge and at neither. -/
theorem witness_EnabledTickFrame : (clocked short 1 [.andPort 0, .ext 1] ⟨1, 0, [0]⟩).Inv ∧
    (clocked short 3 [.andPort 0, .ext 1] ⟨1, 0, [0]⟩).Inv ∧ (clocked short 4 [.andPort 0, .ext 1] ⟨1, 0, [0]⟩).Inv ∧
    tickEnabled short ⟨.pal, 0x0100#16, true, 1, [.andPort 0, .ext 1]⟩ ⟨1, 0, [0]⟩ = true :=
  ⟨edge_inv, by constructor <;> decide +kernel, by constructor <;> decide +kernel, by decide⟩
theorem witness_EnabledTickNotifiesAnAndPort : (clocked short 1 [.andPort (0#8).toNat] ⟨1, 0, [0]⟩).Inv ∧
    (clocked short 3 [.andPort (1#8).toNat] ⟨1, 0, [0]⟩).Inv ∧ 3 = short.todReload / 2 + 1 :=
  ⟨by constructor <;> decide +kernel, by constructor <;> decide +kernel, by decide⟩
theorem witness_CountdownClosedForm : 1 ≤ (clocked short 4 [] ⟨0, 0, []⟩).clk.tod ∧
    (clocked short 4 [] ⟨0, 0, []⟩).clk.tod ≤ short.todReload ∧
    ∃ t, execAll [.tick, .stop, .tick, .start, .tick] (clocked short 4 [] ⟨0, 0, []⟩) = .next t ∧ t.clk.tod = 2 :=
  ⟨by decide, by decide, _, rfl, by decide⟩
theorem witness_TodRoundsClosedForm : 2 ≤ short.todReload ∧ short.todReload % 2 = 0 ∧
    (clocked short 4 [.ext 0] ⟨0, 0, []⟩).clk.tod = short.todReload ∧
    (clocked short 4 [.ext 0] ⟨0, 0, []⟩).clk.targets = [0].map .ext ∧
    ∃ t, execAll [.tick, .tick, .release, .tick, .tick] (clocked short 4 [.ext 0] ⟨0, 0, []⟩) = .next t ∧
      t.out.notify = [⟨0, .tod, false⟩, ⟨0, .tod, true⟩] :=
  ⟨by decide, by decide, rfl, rfl, _, rfl, by decide⟩
theorem witness_StrictTickNeedsTheWaits : busy.bar.pending ≤ busy.bar.expected ∧ busy.cfg.lockstep = .strict ∧
    ∃ t, execAll [.wait 0#8, .tick, .wait 1#8] busy = .next t ∧ tickEnabled t.cfg t.clk t.bar = true :=
  ⟨by decide, rfl, _, rfl, by decide⟩
theorem witness_RateIsStoredAndRead : (0xFFFF#16).toInt < 0 ∧ (0x8000#16).toInt < 0 ∧ 0 ≤ (0x0000#16).toInt ∧
    0 ≤ (0x7FFF#16).toInt := by decide
theorem witness_TodregReplacesTheTargets : Config.reference.targetBank.lookup 4#8 = none ∧
    Config.reference.targetBank.lookup 3#8 = some [.ext 0, .ext 1] := by decide
theorem witness_StoreFollowsItsRule :
    onBus.bus = ⟨onBus.bus.prev, some ramRd, some ramWr, some ramRd, some .col⟩ ∧
    Memory.wf onBus.platform.mem = true ∧ handlerAt ramWr 0xFFFF#16 = .storage 0 ∧
    isInitialized onBus.bus = true ∧ isInitialized State.reset.bus = false := by
  refine ⟨rfl, ?_, ?_, ?_, ?_⟩ <;> decide +kernel
theorem witness_LoadFollowsItsRule :
    onBus.bus = ⟨onBus.bus.prev, some ramRd, some ramWr, some ramRd, some .col⟩ ∧ isInitialized State.reset.bus = false :=
  ⟨rfl, rfl⟩
theorem witness_BusLaws :
    onBus.bus = ⟨onBus.bus.prev, some ramRd, some ramWr, some ramRd, some .col⟩ ∧ Memory.wf onBus.platform.mem = true ∧
    handlerAt ramWr 0x0000#16 = .storage 0 ∧ handlerAt ramRd 0x0000#16 = .storage 0 ∧
    (pageRead onBus.platform (handlerAt ramRd 0x0400#16) 0x0400#16).1 = 0x5A#8 := by
  refine ⟨rfl, ?_, ?_, ?_, ?_⟩ <;> decide +kernel
theorem witness_IsinitReportsAndStaysTrue : isInitialized onBus.bus = true ∧
    ∃ t, step (asked onBus [⟨.host, 0x50000000#32⟩]) = .next t := ⟨rfl, _, rfl⟩
theorem witness_SetcpuReplacesBothTables :
    (∃ rd, Config.reference.tableBank.lookup 2#8 = some (.read rd)) ∧
    (∃ wr, Config.reference.tableBank.lookup 3#8 = some (.write wr)) ∧
    (∀ rd, Config.reference.tableBank.lookup 1#8 ≠ some (.read rd)) ∧
    (∀ wr, Config.reference.tableBank.lookup 4#8 ≠ some (.write wr)) := by
  refine ⟨⟨_, rfl⟩, ⟨_, rfl⟩, ?_, ?_⟩ <;> intro _ h <;> cases h
theorem witness_SetvicAndSetcolorReplace : (∃ t, Config.reference.tableBank.lookup 2#8 = some (.read t)) ∧
    (∀ t, Config.reference.tableBank.lookup 3#8 ≠ some (.read t)) ∧
    Config.reference.colorBank.lookup 0#8 = some .col ∧ Config.reference.colorBank.lookup 1#8 = none := by
  refine ⟨⟨_, rfl⟩, ?_, rfl, rfl⟩
  intro _ h
  cases h
/-- For CounterWrites, CounterClockAndReads and CounterLaw: a Counter of each kind. -/
theorem witness_Counters : (counting ⟨0#16, 0xFFFF#16, false, false⟩).ctr[(0#8).toNat]? = some ⟨0#16, 0xFFFF#16, false, false⟩ ∧
    (counting ⟨0x1234#16, 0xFFFF#16, true, false⟩).ctr[(0#8).toNat]? = some ⟨0x1234#16, 0xFFFF#16, true, false⟩ := by decide
/-- For FlipFlopOperations, DelayFlipFlopOperations, InvertTwiceRestores, WireAndOperations and WireAndLaw. -/
theorem witness_FlipFlopsAndLines : State.reset.ff[(0#8).toNat]? = some ⟨false⟩ ∧
    State.reset.dff[(0#8).toNat]? = some ⟨false, false⟩ ∧ State.reset.wand[(0#8).toNat]? = some ⟨true, true⟩ := by decide
theorem witness_UnwiredKindIsLogged : Config.reference.andCfg[(0#8).toNat]? = some ⟨.tod, .cnt, .flag, .ext 0⟩ ∧
    State.reset.andp[(0#8).toNat]? = some ⟨true, true⟩ ∧ (31#5 ≠ kindCode .tod ∧ 31#5 ≠ kindCode .cnt) ∧
    (1#5 ≠ kindCode .tod ∧ 1#5 ≠ kindCode .cnt) := by decide
/-- For WiredKindSendsTheAnd and AndPortLaw: an AndPort with an external target, both inputs 1. -/
theorem witness_WiredKindSendsTheAnd : Config.reference.andCfg[(0#8).toNat]? = some ⟨.tod, .cnt, .flag, .ext 0⟩ ∧
    State.reset.andp[(0#8).toNat]? = some ⟨true, true⟩ ∧ SignalKind.tod ≠ .cnt ∧
    ∃ v, exec (.andNotify 0#8 8#5 true) State.reset = .next v ∧ v.out.notify = [⟨0, .flag, true⟩] :=
  ⟨rfl, rfl, by decide, _, rfl, by decide⟩
theorem witness_DeliveryEndsWithinTheChain : Config.reference.wiringOk = true ∧
    State.reset.andp.length = Config.reference.nAnd ∧ 1 < Config.reference.nAnd := by decide
theorem witness_AndNotifyFollowsItsRule : Config.reference.wiringOk = true ∧
    State.reset.andp.length = Config.reference.nAnd ∧ SignalKind.irq ≠ .nmi ∧
    Config.reference.andCfg[(1#8).toNat]? = some ⟨.irq, .nmi, .cnt, .andPort (0#8).toNat⟩ ∧
    State.reset.andp[(1#8).toNat]? = some ⟨true, true⟩ := by decide
theorem witness_NotifyFollowsItsRule : (∃ t, notify State.reset (.andPort (1#8).toNat) .nmi false = some t ∧
    t.out.notify = [⟨0, .flag, false⟩]) ∧
    ∃ u, notifyAll .tod true [.andPort 0, .ext 1] State.reset = some u ∧
      u.out.notify = [⟨0, .flag, true⟩, ⟨1, .tod, true⟩] := ⟨⟨_, rfl, by decide⟩, _, rfl, by decide⟩
/-- Both sides of WiringCheckIsAcyclicity occur: a chain, and a cycle of two AndPorts. -/
theorem witness_WiringCheckIsAcyclicity : Config.reference.wiringOk = true ∧
    ({ Config.reference with andCfg := [⟨.tod, .cnt, .flag, .andPort 1⟩, ⟨.irq, .nmi, .cnt, .andPort 0⟩] } : Config).wiringOk
      = false ∧
    hops [⟨.tod, .cnt, .flag, .andPort 1⟩, ⟨.irq, .nmi, .cnt, .andPort 0⟩] 2 0 = some 0 := by decide
theorem witness_AbsentInstanceIsRefused : State.reset.ctr.length ≤ (1#8).toNat ∧ State.reset.ff.length ≤ (1#8).toNat ∧
    State.reset.dff.length ≤ (1#8).toNat ∧ State.reset.andp.length ≤ (2#8).toNat ∧
    State.reset.wand.length ≤ (1#8).toNat := by decide

end Sys2Proof.Tests
end

section
/-! SUPPORT. What an operation can do when it answers a next state, said once for all 34 operations: statements about
every operation are case analyses over `Effect`. -/

namespace Sys2Proof

/-! ## The parameters -/

/-- `Config.wf` as a proposition, clause by clause. -/
theorem Config.wf_iff {c : Config} : c.wf = true ↔
    (1 ≤ c.nAgents ∧ c.nAgents ≤ 256) ∧
    (c.nCtr ≤ 256 ∧ c.nFf ≤ 256 ∧ c.nDff ≤ 256 ∧ c.nAnd ≤ 256 ∧ c.nWand ≤ 256) ∧
    (2 ≤ c.todReload ∧ c.todReload % 2 = 0) ∧
    (∀ a ∈ c.andCfg, a.kind1 ≠ a.kind2) ∧ c.wiringOk = true ∧
    (∀ e ∈ c.targetBank, ∀ r ∈ e.2, c.hasReceiver r = true) ∧ Machine.Memory.wf c.storageInit = true := by
  simp [Config.wf, and_assoc]

/-- Every receiver that a target list of a configuration names exists (44_signals R221). -/
theorem Config.hasReceiver_of_targetList {c : Config} {id : BitVec 8} {l : List Receiver} (hc : c.wf = true)
    (hl : c.targetList? id = some l) : ∀ r ∈ l, c.hasReceiver r = true := by
  obtain ⟨-, -, -, -, -, hbank, -⟩ := Config.wf_iff.mp hc
  obtain ⟨l₁, l₂, heq, -⟩ := List.lookup_eq_some_iff.mp hl
  exact hbank (id, l) (by simp [heq])

end Sys2Proof

namespace Sys2Proof.Machine

/-! ## The bus -/

/-- The bus is initialised exactly when its three tables and its color reference are present (42_bus R163). -/
theorem isInitialized_iff {b : Bus} : isInitialized b = true ↔
    ∃ rd wr vic color, b.cpuRd = some rd ∧ b.cpuWr = some wr ∧ b.vicRd = some vic ∧ b.color = some color := by
  simp [isInitialized, Option.isSome_iff_exists, and_assoc]

theorem isInitialized_of_some {b : Bus} {rd : ReadTable} {wr : WriteTable} {vic : ReadTable} {color : ColorRef}
    (hrd : b.cpuRd = some rd) (hwr : b.cpuWr = some wr) (hvic : b.vicRd = some vic) (hcolor : b.color = some color) :
    isInitialized b = true :=
  isInitialized_iff.mpr ⟨rd, wr, vic, color, hrd, hwr, hvic, hcolor⟩

/-- In the arm of LOAD and STORE that finds a table or the color reference absent, the bus is not initialised. -/
theorem isInitialized_eq_false {b : Bus}
    (h : ∀ rd wr vic color, b.cpuRd = some rd → b.cpuWr = some wr → b.vicRd = some vic → b.color = some color → False) :
    isInitialized b = false := by
  rw [Bool.eq_false_iff, ne_eq, isInitialized_iff]
  rintro ⟨rd, wr, vic, color, hrd, hwr, hvic, hcolor⟩
  exact h rd wr vic color hrd hwr hvic hcolor

/-! ## The effect of an operation -/

/-- What the operation `i` can do to `s` apart from the response: `Effect s i u` where it may leave `u`. The effects on
the logic primitives name the primitive that is replaced and leave its new value open. -/
inductive Effect (s : State) : Instr → State → Prop
  /-- A read, an access that drives nothing, an idle TICK, the clock of a Counter that does not decrement. -/
  | quiet (i : Instr) : Effect s i s
  /-- R120. -/
  | announce (a : BitVec 8) : a.toNat < s.cfg.nAgents → a.toNat ∉ s.bar.blocked →
      Effect s (.announce a) (s.withBar { s.bar with expected := s.bar.expected + 1 })
  /-- R121. -/
  | wait (a : BitVec 8) : a.toNat < s.cfg.nAgents → a.toNat ∉ s.bar.blocked →
      Effect s (.wait a) (s.withBar { s.bar with
        pending := if 0 < s.bar.pending then s.bar.pending - 1 else s.bar.pending
        blocked := insertAgent a.toNat s.bar.blocked })
  /-- R122. -/
  | release : Effect s .release (s.withBar (released s.bar))
  /-- R140. -/
  | start : Effect s .start (s.withClk { s.clk with running := true })
  /-- R141. -/
  | stop : Effect s .stop (s.withClk { s.clk with running := false })
  /-- An enabled pass (R142). -/
  | tick {u : State} : tickPass s = some u → Effect s .tick u
  /-- R144. -/
  | rate (imm : Word16) : Effect s (.setrate imm) (s.withClk { s.clk with rate := rateOf imm })
  /-- R146. -/
  | targets {id : BitVec 8} {l : List Receiver} : s.cfg.targetList? id = some l →
      Effect s (.todreg id) (s.withClk { s.clk with targets := l })
  /-- An access to an uninitialised bus (R167, R241). -/
  | fault {i : Instr} : isAccess i = true → isInitialized s.bus = false →
      Effect s i (s.withOut { s.out with fault := some (s.out.fault.getD ⟨.busNotInitialized, encode i⟩) })
  /-- An honoured STORE (R161). -/
  | store (addr : Addr) (v : Byte) {wr : WriteTable} : isInitialized s.bus = true → s.bus.cpuWr = some wr →
      Effect s (.store addr v .cpu true)
        ((s.withPlatform (pageWrite s.platform (handlerAt wr addr) addr v)).withBus { s.bus with prev := v })
  /-- A driven CPU LOAD (R162). -/
  | loadCpu (addr : Addr) {rd : ReadTable} : isInitialized s.bus = true → s.bus.cpuRd = some rd →
      Effect s (.load addr .cpu true)
        ((s.withPlatform (pageRead s.platform (handlerAt rd addr) addr).2).withBus
          { s.bus with prev := (pageRead s.platform (handlerAt rd addr) addr).1 })
  /-- A driven VIC LOAD (R162): the page first, the color second. -/
  | loadVic (addr : Addr) {vic : ReadTable} {color : ColorRef} : isInitialized s.bus = true →
      s.bus.vicRd = some vic → s.bus.color = some color →
      Effect s (.load addr .vic false)
        ((s.withPlatform (colorRead (pageRead s.platform (handlerAt vic addr) addr).2 color addr).2).withBus
          { s.bus with prev := (pageRead s.platform (handlerAt vic addr) addr).1 })
  /-- R164. -/
  | setcpu {idRd idWr : BitVec 8} {rd : ReadTable} {wr : WriteTable} : s.cfg.readTable? idRd = some rd →
      s.cfg.writeTable? idWr = some wr →
      Effect s (.setcpu idRd idWr) (s.withBus { s.bus with cpuRd := some rd, cpuWr := some wr })
  /-- R165. -/
  | setvic {id : BitVec 8} {vic : ReadTable} : s.cfg.readTable? id = some vic →
      Effect s (.setvic id) (s.withBus { s.bus with vicRd := some vic })
  /-- R166. -/
  | setcolor {id : BitVec 8} {color : ColorRef} : s.cfg.colorRef? id = some color →
      Effect s (.setcolor id) (s.withBus { s.bus with color := some color })
  /-- The writes to a Counter (R180 to R183). -/
  | counter (i : Instr) (j : Nat) (c : Counter) : Effect s i (s.withCtr j c)
  /-- CTR.WHI of a decrementing Counter takes a draw (R181). -/
  | counterDraw (i : Instr) (j : Nat) (c : Counter) : Effect s i ((s.withCtr j c).withDraws (s.draws + 1))
  /-- The writes to a FlipFlop (R186 to R188). -/
  | flipFlop (i : Instr) (j : Nat) (f : FlipFlop) : Effect s i (s.withFf j f)
  /-- The writes to a delay-clocked FlipFlop (R190 to R193). -/
  | delayFlipFlop (i : Instr) (j : Nat) (f : DelayFlipFlop) : Effect s i (s.withDff j f)
  /-- R195. -/
  | andNotify {i : BitVec 8} {kind : BitVec 5} {level : Bit} {u : State} :
      andDeliver s.cfg.nAnd s i.toNat kind level = some u → Effect s (.andNotify i kind level) u
  /-- R196. -/
  | wireAnd (i : Instr) (j : Nat) (w : WireAnd) : Effect s i (s.withWand j w)

/-- `i` takes `s` to `t`: by one of the effects of `i`, and by the response. -/
def Performs (s : State) (i : Instr) (t : State) : Prop := ∃ u r, Effect s i u ∧ t = u.answered r

variable {s t u : State} {i : Instr}

theorem Effect.of_done (he : Effect s i u) (h : done u = .next t) : Performs s i t :=
  ⟨u, none, he, done_next.mp h⟩

theorem Effect.of_reply {v : Word16} (he : Effect s i u) (h : reply v u = .next t) : Performs s i t :=
  ⟨u, some v, he, reply_next.mp h⟩

/-! ## Every operation performs one of its effects -/

theorem execAnnounce_performs {a : BitVec 8} (h : execAnnounce a s = .next t) : Performs s (.announce a) t := by
  obtain ⟨ha, hb, h⟩ := fromAgent_next.mp h
  exact (Effect.announce a ha hb).of_done h

theorem execWait_performs {a : BitVec 8} (h : execWait a s = .next t) : Performs s (.wait a) t := by
  obtain ⟨ha, hb, h⟩ := fromAgent_next.mp h
  exact (Effect.wait a ha hb).of_done h

theorem execTick_performs (h : execTick s = .next t) : Performs s .tick t := by
  obtain ⟨-, rfl⟩ | ⟨-, u, hu, rfl⟩ := execTick_next h
  · exact ⟨s, none, .quiet _, rfl⟩
  · exact ⟨u, none, .tick hu, rfl⟩

theorem execTodreg_performs {id : BitVec 8} (h : execTodreg id s = .next t) : Performs s (.todreg id) t := by
  unfold execTodreg at h
  split at h
  · exact (Effect.targets ‹_›).of_done h
  · cases h

/-- A LOAD or STORE on an uninitialised bus performs the recording of its fault. -/
theorem takeFault_performs (hi : isAccess i = true) (hb : isInitialized s.bus = false)
    (h : takeFault .busNotInitialized i s = .next t) : Performs s i t :=
  (Effect.fault hi hb).of_done h

theorem execStore_performs {addr : Addr} {v : Byte} {view : View} {aec : Bit}
    (h : execStore addr v view aec s = .next t) : Performs s (.store addr v view aec) t := by
  unfold execStore at h
  split at h
  · have hinit := isInitialized_of_some ‹_› ‹_› ‹_› ‹_›
    split at h
    · rename_i haec
      obtain rfl : aec = true := haec
      exact (Effect.store addr v hinit ‹_›).of_done h
    · exact (Effect.quiet _).of_done h
  · exact takeFault_performs rfl (isInitialized_eq_false ‹_›) h

theorem execLoad_performs {addr : Addr} {view : View} {aec : Bit}
    (h : execLoad addr view aec s = .next t) : Performs s (.load addr view aec) t := by
  unfold execLoad at h
  split at h
  · have hinit := isInitialized_of_some ‹_› ‹_› ‹_› ‹_›
    split at h
    case h_1 haec =>
      obtain rfl : aec = true := haec
      exact (Effect.loadCpu addr hinit ‹_›).of_reply h
    case h_3 haec =>
      obtain rfl : aec = false := by simpa [driven] using haec
      exact (Effect.loadVic addr hinit ‹_› ‹_›).of_reply h
    all_goals exact (Effect.quiet _).of_reply h
  · exact takeFault_performs rfl (isInitialized_eq_false ‹_›) h

theorem execSetcpu_performs {r w : BitVec 8} (h : execSetcpu r w s = .next t) : Performs s (.setcpu r w) t := by
  unfold execSetcpu at h
  split at h
  · exact (Effect.setcpu ‹_› ‹_›).of_done h
  · cases h

theorem execSetvic_performs {id : BitVec 8} (h : execSetvic id s = .next t) : Performs s (.setvic id) t := by
  unfold execSetvic at h
  split at h
  · exact (Effect.setvic ‹_›).of_done h
  · cases h

theorem execSetcolor_performs {id : BitVec 8} (h : execSetcolor id s = .next t) : Performs s (.setcolor id) t := by
  unfold execSetcolor at h
  split at h
  · exact (Effect.setcolor ‹_›).of_done h
  · cases h

theorem execCtrWhi_performs {j : BitVec 8} {b : Byte} (h : execCtrWhi j b s = .next t) :
    Performs s (.ctrWhi j b) t := by
  obtain ⟨c, -, h⟩ := onCounter_next.mp h
  split at h
  · exact (Effect.counterDraw _ _ _).of_done h
  · exact (Effect.counter _ _ _).of_done h

theorem execCtrClk_performs {j : BitVec 8} (h : execCtrClk j s = .next t) : Performs s (.ctrClk j) t := by
  obtain ⟨c, -, h⟩ := onCounter_next.mp h
  split at h
  · exact (Effect.counter _ _ _).of_done h
  · exact (Effect.quiet _).of_done h

theorem execAndNotify_performs {j : BitVec 8} {kind : BitVec 5} {level : Bit}
    (h : execAndNotify j kind level s = .next t) : Performs s (.andNotify j kind level) t := by
  obtain ⟨u, hu, rfl⟩ := execAndNotify_next h
  exact ⟨u, none, .andNotify hu, rfl⟩

/-- What an operation can do: where it answers a next state, it performed one of its effects. -/
theorem exec_performs (h : exec i s = .next t) : Performs s i t := by
  cases i with
  | announce a => exact execAnnounce_performs h
  | wait a => exact execWait_performs h
  | release => exact Effect.release.of_done h
  | allfin => exact (Effect.quiet _).of_reply h
  | start => exact Effect.start.of_done h
  | stop => exact Effect.stop.of_done h
  | tick => exact execTick_performs h
  | setrate imm => exact (Effect.rate imm).of_done h
  | getrate => exact (Effect.quiet _).of_reply h
  | todreg id => exact execTodreg_performs h
  | store addr v view aec => exact execStore_performs h
  | load addr view aec => exact execLoad_performs h
  | isinit => exact (Effect.quiet _).of_reply h
  | setcpu r w => exact execSetcpu_performs h
  | setvic id => exact execSetvic_performs h
  | setcolor id => exact execSetcolor_performs h
  | ctrWlo j b =>
    obtain ⟨c, -, h⟩ := onCounter_next.mp h
    exact (Effect.counter _ _ _).of_done h
  | ctrWhi j b => exact execCtrWhi_performs h
  | ctrDec j on =>
    obtain ⟨c, -, h⟩ := onCounter_next.mp h
    exact (Effect.counter _ _ _).of_done h
  | ctrClk j => exact execCtrClk_performs h
  | ctrZero j =>
    obtain ⟨c, -, h⟩ := onCounter_next.mp h
    exact (Effect.quiet _).of_reply h
  | ctrRead j =>
    obtain ⟨c, -, h⟩ := onCounter_next.mp h
    exact (Effect.quiet _).of_reply h
  | ffSet j =>
    obtain ⟨f, -, h⟩ := onFlipFlop_next.mp h
    exact (Effect.flipFlop _ _ _).of_done h
  | ffRst j =>
    obtain ⟨f, -, h⟩ := onFlipFlop_next.mp h
    exact (Effect.flipFlop _ _ _).of_done h
  | ffInv j =>
    obtain ⟨f, -, h⟩ := onFlipFlop_next.mp h
    exact (Effect.flipFlop _ _ _).of_done h
  | ffGet j =>
    obtain ⟨f, -, h⟩ := onFlipFlop_next.mp h
    exact (Effect.quiet _).of_reply h
  | dffSet j =>
    obtain ⟨f, -, h⟩ := onDelayFlipFlop_next.mp h
    exact (Effect.delayFlipFlop _ _ _).of_done h
  | dffRst j =>
    obtain ⟨f, -, h⟩ := onDelayFlipFlop_next.mp h
    exact (Effect.delayFlipFlop _ _ _).of_done h
  | dffInv j =>
    obtain ⟨f, -, h⟩ := onDelayFlipFlop_next.mp h
    exact (Effect.delayFlipFlop _ _ _).of_done h
  | dffClk j =>
    obtain ⟨f, -, h⟩ := onDelayFlipFlop_next.mp h
    exact (Effect.delayFlipFlop _ _ _).of_done h
  | dffGet j =>
    obtain ⟨f, -, h⟩ := onDelayFlipFlop_next.mp h
    exact (Effect.quiet _).of_reply h
  | andNotify j kind level => exact execAndNotify_performs h
  | wandSet j line level =>
    obtain ⟨w, -, h⟩ := onWireAnd_next.mp h
    exact (Effect.wireAnd _ _ _).of_done h
  | wandGet j =>
    obtain ⟨w, -, h⟩ := onWireAnd_next.mp h
    exact (Effect.quiet _).of_reply h

/-- What a step can do: nothing, or the effect of one operation on the state in which its request is being served. -/
theorem step_performs (h : step s = .next t) :
    t = s ∨ ∃ r rest i, Performs (s.serving r rest) i t := by
  obtain ⟨-, rfl⟩ | ⟨r, rest, i, -, -, -, hi⟩ := step_next h
  · exact .inl rfl
  · exact .inr ⟨r, rest, i, exec_performs hi⟩

end Sys2Proof.Machine
end

section
/-! SUPPORT. The invariant holds after reset and every step keeps it: one lemma for each replacement of a component, then
one case for each effect. -/

namespace Sys2Proof.Machine

variable {s t u : State} {i : Instr}

/-! ## Value computations that the invariant bounds -/

/-- SETRATE stores no negative image (41_clock R144, R145). -/
theorem rateOf_lt (imm : Word16) : (rateOf imm).toNat < 0x8000 := by
  unfold rateOf
  split
  · decide
  · rename_i h
    rw [BitVec.toInt_neg_iff] at h
    omega

/-- The countdown stays in `1 .. TOD_RELOAD` (10_state R29). -/
theorem nextTod_range {reload tod : Nat} (hr : 1 ≤ reload) (ht : tod ≤ reload) :
    1 ≤ nextTod reload tod ∧ nextTod reload tod ≤ reload := by
  unfold nextTod
  split <;> omega

/-! ## Each replacement keeps the invariant -/

theorem State.Inv.answered (h : s.Inv) (r : Option Word16) : (s.answered r).Inv := { h with }

theorem State.Inv.serving (h : s.Inv) (r : Request) (rest : List Request) : (s.serving r rest).Inv := { h with }

theorem State.Inv.withBus (h : s.Inv) (b : Bus) : (s.withBus b).Inv := { h with }

theorem State.Inv.withOut (h : s.Inv) (o : Outputs) : (s.withOut o).Inv := { h with }

theorem State.Inv.withDraws (h : s.Inv) (n : Nat) : (s.withDraws n).Inv := { h with }

theorem State.Inv.withBar (h : s.Inv) {b : Barrier} (hpending : b.pending ≤ b.expected)
    (hrising : b.blocked.Pairwise (· < ·)) (hagents : ∀ a ∈ b.blocked, a < s.cfg.nAgents) : (s.withBar b).Inv :=
  { h with pendingLe := hpending, blockedRising := hrising, blockedAgents := hagents }

theorem State.Inv.withPlatform (h : s.Inv) {p : Platform} (hp : Memory.wf p.mem = true) : (s.withPlatform p).Inv :=
  { h with memWf := hp }

/-- A read calls handlers and writes no storage byte (42_bus R162). -/
theorem State.Inv.afterRead (h : s.Inv) {p : Platform} (hp : p.mem = s.platform.mem) (b : Bus) :
    ((s.withPlatform p).withBus b).Inv :=
  (h.withPlatform (hp ▸ h.memWf)).withBus b

theorem State.Inv.withCtr (h : s.Inv) (j : Nat) (c : Counter) : (s.withCtr j c).Inv :=
  { h with ctrCount := List.length_set.trans h.ctrCount }

theorem State.Inv.withFf (h : s.Inv) (j : Nat) (f : FlipFlop) : (s.withFf j f).Inv :=
  { h with ffCount := List.length_set.trans h.ffCount }

theorem State.Inv.withDff (h : s.Inv) (j : Nat) (f : DelayFlipFlop) : (s.withDff j f).Inv :=
  { h with dffCount := List.length_set.trans h.dffCount }

theorem State.Inv.withWand (h : s.Inv) (j : Nat) (w : WireAnd) : (s.withWand j w).Inv :=
  { h with wandCount := List.length_set.trans h.wandCount }

/-- START and STOP write a field that the invariant does not bound. -/
theorem State.Inv.withRunning (h : s.Inv) (on : Bit) : (s.withClk { s.clk with running := on }).Inv := { h with }

theorem State.Inv.withRate (h : s.Inv) (imm : Word16) : (s.withClk { s.clk with rate := rateOf imm }).Inv :=
  { h with rateRange := rateOf_lt imm }

theorem State.Inv.withTargets (h : s.Inv) {l : List Receiver} (hl : ∀ r ∈ l, s.cfg.hasReceiver r = true) :
    (s.withClk { s.clk with targets := l }).Inv :=
  { h with targetsExist := hl }

theorem State.Inv.withTod (h : s.Inv) {n : Nat} (hn : 1 ≤ n ∧ n ≤ s.cfg.todReload) :
    (s.withClk { s.clk with tod := n }).Inv :=
  { h with todPos := hn.1, todLe := hn.2 }

/-- Deliveries change AndPort slots and outputs only (45_operation_classes R305). -/
theorem Delivers.inv (hd : Delivers s t) (h : s.Inv) : t.Inv := by
  rw [hd.rest]
  exact { h with andCount := hd.count.trans h.andCount }

/-! ## Every effect keeps the invariant -/

/-- ANNOUNCE raises the bound of `bar.pending` (40_barrier R120). -/
theorem State.Inv.announce (h : s.Inv) : (s.withBar { s.bar with expected := s.bar.expected + 1 }).Inv :=
  h.withBar (Nat.le_succ_of_le h.pendingLe) h.blockedRising h.blockedAgents

/-- WAIT only lowers `bar.pending`, and blocks an agent that exists (40_barrier R121). -/
theorem State.Inv.wait (h : s.Inv) {a : Nat} (ha : a < s.cfg.nAgents) :
    (s.withBar { s.bar with
      pending := if 0 < s.bar.pending then s.bar.pending - 1 else s.bar.pending
      blocked := insertAgent a s.bar.blocked }).Inv := by
  have hle := h.pendingLe
  refine h.withBar ?pending (insertAgent_rising h.blockedRising) ?agents
  case pending =>
    dsimp only
    split <;> omega
  case agents =>
    intro b hb
    obtain rfl | hb := mem_insertAgent.mp hb
    · exact ha
    · exact h.blockedAgents b hb

/-- The release empties the set and fills `bar.pending` (40_barrier R122). -/
theorem State.Inv.released (h : s.Inv) : (s.withBar (released s.bar)).Inv :=
  h.withBar (Nat.le_refl _) List.Pairwise.nil (fun _ ha => absurd ha List.not_mem_nil)

/-- An enabled pass: the release, a countdown in range, and deliveries (41_clock R142). -/
theorem State.Inv.tickPass (h : s.Inv) (hu : tickPass s = some u) : u.Inv := by
  obtain ⟨-, -, ⟨hreload, -⟩, -⟩ := Config.wf_iff.mp h.cfgWf
  have htod := nextTod_range (Nat.le_of_succ_le hreload) h.todLe
  exact (tickPass_delivers hu).inv (h.released.withTod htod)

theorem Effect.inv (he : Effect s i u) (h : s.Inv) : u.Inv := by
  cases he with
  | quiet => exact h
  | announce a => exact h.announce
  | wait a ha => exact h.wait ha
  | release => exact h.released
  | start => exact h.withRunning true
  | stop => exact h.withRunning false
  | tick hu => exact h.tickPass hu
  | rate imm => exact h.withRate imm
  | targets hl => exact h.withTargets (Config.hasReceiver_of_targetList h.cfgWf hl)
  | fault => exact h.withOut _
  | store addr v => exact (h.withPlatform (writtenMem_wf h.memWf _ addr v)).withBus _
  | loadCpu => exact h.afterRead (pageRead_mem _ _ _) _
  | loadVic => exact h.afterRead ((colorRead_mem _ _ _).trans (pageRead_mem _ _ _)) _
  | setcpu => exact h.withBus _
  | setvic => exact h.withBus _
  | setcolor => exact h.withBus _
  | counter _ j c => exact h.withCtr j c
  | counterDraw _ j c => exact (h.withCtr j c).withDraws _
  | flipFlop _ j f => exact h.withFf j f
  | delayFlipFlop _ j f => exact h.withDff j f
  | andNotify hu => exact (andDeliver_delivers hu).inv h
  | wireAnd _ j w => exact h.withWand j w

/-- Every operation that answers a next state keeps the invariant. -/
theorem Performs.inv (hp : Performs s i t) (h : s.Inv) : t.Inv := by
  obtain ⟨u, r, he, rfl⟩ := hp
  exact (he.inv h).answered r

/-- Settles O15: an idle step keeps the state, any other keeps `Inv` with the effect of its operation. -/
theorem stepKeepsTheInvariant : Obligations.StepKeepsTheInvariant := by
  intro s t hs h
  obtain rfl | ⟨r, rest, i, hp⟩ := step_performs h
  · exact hs
  · exact hp.inv (hs.serving r rest)

/-! ## Reset -/

/-- The reset state of every configuration of the block satisfies the invariant (10_state R49). -/
theorem inv_resetWith {c : Config} (hc : c.wf = true) : (State.resetWith c).Inv where
  cfgWf := hc
  pendingLe := Nat.le_refl 0
  blockedRising := List.Pairwise.nil
  blockedAgents := fun _ ha => absurd ha List.not_mem_nil
  kindFixed := rfl
  rateRange := by
    change (0x0100#16).toNat < 0x8000
    decide
  todPos := by
    obtain ⟨-, -, ⟨hreload, -⟩, -⟩ := Config.wf_iff.mp hc
    exact Nat.le_of_succ_le hreload
  todLe := Nat.le_refl _
  targetsExist := fun _ hr => absurd hr List.not_mem_nil
  ctrCount := List.length_replicate
  ffCount := List.length_replicate
  dffCount := List.length_replicate
  andCount := List.length_replicate
  wandCount := List.length_replicate
  memWf := by
    obtain ⟨-, -, -, -, -, -, hmem⟩ := Config.wf_iff.mp hc
    exact hmem

/-- Settles O13: the reference platform is a configuration of the block, and reset on any such gives `Inv`. -/
theorem resetSatisfiesTheInvariant : Obligations.ResetSatisfiesTheInvariant := by
  have hwf : Config.reference.wf = true := by decide
  exact inv_resetWith hwf

/-- Settles O12: every component is the literal of the reset table, and each list holds copies of one element. -/
theorem resetValues : Obligations.ResetValues := by
  intro c
  have hreplicate {α : Type} (a : α) (n : Nat) : ∀ j < n, (List.replicate n a)[j]? = some a :=
    fun _ => List.getElem?_replicate_of_lt
  exact ⟨rfl, rfl, rfl, hreplicate _ c.nCtr, hreplicate _ c.nFf, hreplicate _ c.nDff, hreplicate _ c.nAnd,
    hreplicate _ c.nWand, rfl, rfl, rfl, rfl⟩

end Sys2Proof.Machine
end

section
/-! SUPPORT. What each operation leaves unchanged: the parameters, the recorded outputs, the latch and the platform, the
countdown and the barrier. -/

namespace Sys2Proof.Machine

variable {s t u : State} {i : Instr}

theorem Delivers.bar (h : Delivers s t) : t.bar = s.bar := by rw [h.rest]
theorem Delivers.bus (h : Delivers s t) : t.bus = s.bus := by rw [h.rest]
theorem Delivers.platform (h : Delivers s t) : t.platform = s.platform := by rw [h.rest]

/-! ## The parameters -/

/-- No effect writes the parameters or the clock's profile (10_state R26, R48). -/
theorem Effect.keeps_params (he : Effect s i u) : u.cfg = s.cfg ∧ u.clk.kind = s.clk.kind := by
  cases he with
  | tick hu =>
    have hd := tickPass_delivers hu
    have hkind := congrArg Clock.kind hd.clk
    exact ⟨hd.cfg, hkind⟩
  | andNotify hu =>
    have hd := andDeliver_delivers hu
    exact ⟨hd.cfg, congrArg Clock.kind hd.clk⟩
  | _ => exact ⟨rfl, rfl⟩

/-- Settles O17: no step has an effect on the parameters. -/
theorem parametersNeverChange : Obligations.ParametersNeverChange := by
  intro s t h
  obtain rfl | ⟨r, rest, i, u, _, he, rfl⟩ := step_performs h
  · exact ⟨rfl, rfl⟩
  · exact he.keeps_params

/-! ## The outputs -/

/-- `o'` keeps what `o` recorded: the notifications and the log are continued, a fault stays (10_state R41 to R43). -/
structure Outputs.Extends (o o' : Outputs) : Prop where
  notify : o.notify <+: o'.notify
  log : o.log <+: o'.log
  fault : ∀ f, o.fault = some f → o'.fault = some f

theorem Outputs.Extends.refl (o : Outputs) : o.Extends o := ⟨List.prefix_rfl, List.prefix_rfl, fun _ hf => hf⟩

theorem Delivers.out_extends (h : Delivers s t) : s.out.Extends t.out :=
  ⟨h.notify, h.log, fun _ hf => h.fault.trans hf⟩

/-- Recording a fault keeps the one recorded before (60_exceptions R241, R250). -/
theorem Outputs.extends_recordFault (o : Outputs) (f : FaultRecord) :
    o.Extends { o with fault := some (o.fault.getD f) } where
  notify := List.prefix_rfl
  log := List.prefix_rfl
  fault := fun g hg => by simp [hg]

theorem Effect.out_extends (he : Effect s i u) : s.out.Extends u.out := by
  cases he with
  | tick hu => exact (tickPass_delivers hu).out_extends
  | andNotify hu => exact (andDeliver_delivers hu).out_extends
  | fault => exact Outputs.extends_recordFault _ _
  | _ => exact .refl _

/-- Settles O18: outputs are written by deliveries, which append, and by `takeFault`, which keeps a first fault. -/
theorem outputsGrowAndFaultSticks : Obligations.OutputsGrowAndFaultSticks := by
  intro s t h
  have hext : s.out.Extends t.out := by
    obtain rfl | ⟨r, rest, i, u, _, he, rfl⟩ := step_performs h
    · exact .refl _
    · exact he.out_extends
  exact ⟨hext.notify, hext.log, hext.fault⟩

/-! ## The latch and the platform -/

/-- The accesses that a bus serves: those of the owner that AEC names (42_bus R160), a STORE only from the CPU (R161). -/
def isDriven (i : Instr) : Prop :=
  (∃ addr v, i = .store addr v .cpu true) ∨ (∃ addr, i = .load addr .cpu true) ∨ (∃ addr, i = .load addr .vic false)

/-- An effect keeps the latch and the platform, or is a driven access to an initialised bus. -/
theorem Effect.keeps_latch_platform (he : Effect s i u) :
    (u.bus.prev = s.bus.prev ∧ u.platform = s.platform) ∨ (isInitialized s.bus = true ∧ isDriven i) := by
  cases he with
  | store addr v hinit => exact .inr ⟨hinit, .inl ⟨addr, v, rfl⟩⟩
  | loadCpu addr hinit => exact .inr ⟨hinit, .inr (.inl ⟨addr, rfl⟩)⟩
  | loadVic addr hinit => exact .inr ⟨hinit, .inr (.inr ⟨addr, rfl⟩)⟩
  | tick hu =>
    have hd := tickPass_delivers hu
    exact .inl ⟨congrArg Bus.prev hd.bus, hd.platform⟩
  | andNotify hu =>
    have hd := andDeliver_delivers hu
    exact .inl ⟨congrArg Bus.prev hd.bus, hd.platform⟩
  | _ => exact .inl ⟨rfl, rfl⟩

/-- Settles O21: every effect but that of a driven access keeps both. -/
theorem onlyDrivenAccessesTouchLatchAndPlatform : Obligations.OnlyDrivenAccessesTouchLatchAndPlatform := by
  intro i s t h hne
  obtain ⟨u, r, he, rfl⟩ := exec_performs h
  obtain ⟨hprev, hplatform⟩ | hdriven := he.keeps_latch_platform
  · exact absurd hne (not_or.mpr ⟨not_not.mpr hprev, not_not.mpr hplatform⟩)
  · exact hdriven

/-! ## The countdown and the barrier -/

/-- Every effect but TICK's keeps the countdown (10_state R29). -/
theorem Effect.keeps_tod (he : Effect s i u) : u.clk.tod = s.clk.tod ∨ i = .tick := by
  cases he with
  | tick => exact .inr rfl
  | andNotify hu => exact .inl (congrArg Clock.tod (andDeliver_delivers hu).clk)
  | _ => exact .inl rfl

/-- Every effect but TICK's and those of the barrier's writers keeps the barrier (45_operation_classes R305). -/
theorem Effect.keeps_bar (he : Effect s i u) :
    u.bar = s.bar ∨ i = .tick ∨ i = .release ∨ ∃ a, i = .announce a ∨ i = .wait a := by
  cases he with
  | tick => exact .inr (.inl rfl)
  | release => exact .inr (.inr (.inl rfl))
  | announce a => exact .inr (.inr (.inr ⟨a, .inl rfl⟩))
  | wait a => exact .inr (.inr (.inr ⟨a, .inr rfl⟩))
  | andNotify hu => exact .inl (andDeliver_delivers hu).bar
  | _ => exact .inl rfl

/-- Settles O23: deliveries write neither, so of the senders only TICK does, by its release and its countdown. -/
theorem countdownAndBarrierOwners : Obligations.CountdownAndBarrierOwners := by
  intro i s t h
  obtain ⟨u, r, he, rfl⟩ := exec_performs h
  exact ⟨fun hne => he.keeps_tod.resolve_left hne, fun hne => he.keeps_bar.resolve_left hne⟩

end Sys2Proof.Machine
end

section
/-! SUPPORT. The encoding: a word that matches a row of the opcode map decodes to that row's operation on its fields, so
encoding and decoding are inverse to each other and follow the map. -/

namespace Sys2Proof

/-! ## One-bit fields, read and written -/

theorem bit1_bitField_toNat (w : ReqWord) (n : Nat) : (bit1 (bitField w n)).toNat = w.toNat / 2 ^ n % 2 := by
  have hbit := bitField_iff w n
  cases hb : bitField w n with
  | true => simp_all [bit1]
  | false => simp_all [bit1]

theorem viewBit_viewField_toNat (w : ReqWord) : (viewBit (viewField w)).toNat = w.toNat / 2 ^ 25 % 2 := by
  have hview : viewBit (viewField w) = bit1 (bitField w 25) := by
    unfold viewField
    cases bitField w 25 <;> rfl
  rw [hview, bit1_bitField_toNat]

theorem lineBit_lineField_toNat (w : ReqWord) : (lineBit (lineField w)).toNat = w.toNat / 2 ^ 8 % 2 := by
  have hline : lineBit (lineField w) = bit1 (bitField w 8) := by
    unfold lineField
    cases bitField w 8 <;> rfl
  rw [hline, bit1_bitField_toNat]

theorem bitField_eq_of_toNat {w : ReqWord} {n : Nat} {b : Bit} (h : w.toNat / 2 ^ n % 2 = (bit1 b).toNat) :
    bitField w n = b := by
  rw [← bit1_bitField_toNat] at h
  revert h
  cases bitField w n <;> cases b <;> decide

theorem viewField_eq_of_toNat {w : ReqWord} {v : View} (h : w.toNat / 2 ^ 25 % 2 = (viewBit v).toNat) :
    viewField w = v := by
  rw [← viewBit_viewField_toNat] at h
  revert h
  cases viewField w <;> cases v <;> decide

theorem lineField_eq_of_toNat {w : ReqWord} {l : WireLine} (h : w.toNat / 2 ^ 8 % 2 = (lineBit l).toNat) :
    lineField w = l := by
  rw [← lineBit_lineField_toNat] at h
  revert h
  cases lineField w <;> cases l <;> decide

/-! ## The fields of a format's word -/

theorem instField_wordP0 (o : BitVec 6) (i : BitVec 8) : instField (wordP0 o i) = i := by
  apply BitVec.eq_of_toNat_eq
  rw [instField_toNat, wordP0_toNat]
  omega

theorem lowByteField_wordL (o : BitVec 6) (i : BitVec 8) : lowByteField (wordL o i) = i := by
  apply BitVec.eq_of_toNat_eq
  rw [lowByteField_toNat, wordL_toNat]
  omega

theorem instField_wordPB (o : BitVec 6) (i b : BitVec 8) : instField (wordPB o i b) = i := by
  apply BitVec.eq_of_toNat_eq
  rw [instField_toNat, wordPB_toNat]
  omega

theorem lowByteField_wordPB (o : BitVec 6) (i b : BitVec 8) : lowByteField (wordPB o i b) = b := by
  apply BitVec.eq_of_toNat_eq
  rw [lowByteField_toNat, wordPB_toNat]
  omega

/-! ## The words of the other formats as numbers -/

theorem encode_setrate_toNat (imm : Word16) : (encode (.setrate imm)).toNat = 0x0B * 2 ^ 26 + imm.toNat := by
  simp only [encode, append_toNat, BitVec.toNat_ofNat]
  omega

theorem encode_store_toNat (addr : Addr) (value : Byte) (view : View) (aec : Bit) :
    (encode (.store addr value view aec)).toNat =
      0x10 * 2 ^ 26 + (viewBit view).toNat * 2 ^ 25 + (bit1 aec).toNat * 2 ^ 24 + value.toNat * 2 ^ 16 + addr.toNat := by
  simp only [encode, append_toNat, BitVec.toNat_ofNat]
  omega

theorem encode_load_toNat (addr : Addr) (view : View) (aec : Bit) :
    (encode (.load addr view aec)).toNat =
      0x11 * 2 ^ 26 + (viewBit view).toNat * 2 ^ 25 + (bit1 aec).toNat * 2 ^ 24 + addr.toNat := by
  simp only [encode, append_toNat, BitVec.toNat_ofNat]
  omega

theorem encode_setcpu_toNat (r w : BitVec 8) :
    (encode (.setcpu r w)).toNat = 0x13 * 2 ^ 26 + r.toNat * 2 ^ 8 + w.toNat := by
  simp only [encode, append_toNat, BitVec.toNat_ofNat]
  omega

theorem encode_ctrDec_toNat (i : BitVec 8) (on : Bit) :
    (encode (.ctrDec i on)).toNat = 0x1A * 2 ^ 26 + i.toNat * 2 ^ 18 + (bit1 on).toNat := by
  simp only [encode, append_toNat, BitVec.toNat_ofNat]
  omega

theorem encode_andNotify_toNat (i : BitVec 8) (kind : BitVec 5) (level : Bit) :
    (encode (.andNotify i kind level)).toNat =
      0x30 * 2 ^ 26 + i.toNat * 2 ^ 18 + kind.toNat * 2 ^ 8 + (bit1 level).toNat := by
  simp only [encode, append_toNat, BitVec.toNat_ofNat]
  omega

theorem encode_wandSet_toNat (i : BitVec 8) (line : WireLine) (level : Bit) :
    (encode (.wandSet i line level)).toNat =
      0x38 * 2 ^ 26 + i.toNat * 2 ^ 18 + (lineBit line).toNat * 2 ^ 8 + (bit1 level).toNat := by
  simp only [encode, append_toNat, BitVec.toNat_ofNat]
  omega

/-! ## A word that matches a row decodes to the row's operation -/

section
variable {w mask m : ReqWord}

/-- A field that the row's mask keeps whole is the match word's. -/
theorem extractLsb'_of_matchesRow (h : matchesRow w (mask, m) = true) (lo len : Nat)
    (hmask : mask.extractLsb' lo len = BitVec.allOnes len) : w.extractLsb' lo len = m.extractLsb' lo len := by
  have hm : w &&& mask = m := beq_iff_eq.mp h
  rw [← hm, BitVec.extractLsb'_and, hmask, BitVec.and_allOnes]

/-- The row's opcode picks the row, and its mask covers the must-be-zero bits that the decoder tests there. -/
theorem decode_of_matchesRow {ok : Bool} {i : Instr} (h : matchesRow w (mask, m) = true)
    (hopc : opcField mask = BitVec.allOnes 6) (hrow : decodeRow (opcField m).toNat w = guarded ok i) (hok : ok = true) :
    decode w = .ok i := by
  have hw : opcField w = opcField m := extractLsb'_of_matchesRow h 26 6 hopc
  rw [decode, hw, hrow, hok, guarded, if_pos rfl]

theorem zeroBits_of_matchesRow (h : matchesRow w (mask, m) = true) (lo len : Nat)
    (hmask : mask.extractLsb' lo len = BitVec.allOnes len) (hm : zeroBits m lo len = true) :
    zeroBits w lo len = true := by
  rw [zeroBits, extractLsb'_of_matchesRow h lo len hmask]
  exact hm

theorem decode_of_rowN {i : Instr} (h : matchesRow w (0xFFFFFFFF, m) = true)
    (hrow : decodeRow (opcField m).toNat w = formatN w i) (hm : zeroBits m 0 26 = true) : decode w = .ok i :=
  decode_of_matchesRow h (by decide) hrow (zeroBits_of_matchesRow h 0 26 (by decide) hm)

theorem decode_of_rowP0 {mk : BitVec 8 → Instr} (h : matchesRow w (0xFC03FFFF, m) = true)
    (hrow : decodeRow (opcField m).toNat w = formatP0 w mk) (hm : zeroBits m 0 18 = true) :
    decode w = .ok (mk (instField w)) :=
  decode_of_matchesRow h (by decide) hrow (zeroBits_of_matchesRow h 0 18 (by decide) hm)

theorem decode_of_rowL {mk : BitVec 8 → Instr} (h : matchesRow w (0xFFFFFF00, m) = true)
    (hrow : decodeRow (opcField m).toNat w = formatL w mk) (hm : zeroBits m 8 18 = true) :
    decode w = .ok (mk (lowByteField w)) :=
  decode_of_matchesRow h (by decide) hrow (zeroBits_of_matchesRow h 8 18 (by decide) hm)

theorem decode_of_rowPB {mk : BitVec 8 → Byte → Instr} (h : matchesRow w (0xFC03FF00, m) = true)
    (hrow : decodeRow (opcField m).toNat w = formatPB w mk) (hm : zeroBits m 8 10 = true) :
    decode w = .ok (mk (instField w) (lowByteField w)) :=
  decode_of_matchesRow h (by decide) hrow (zeroBits_of_matchesRow h 8 10 (by decide) hm)

theorem decode_of_rowSetrate (h : matchesRow w (0xFFFF0000, 0x2C000000) = true) :
    decode w = .ok (.setrate (halfField w)) :=
  decode_of_matchesRow h (by decide) rfl (zeroBits_of_matchesRow h 16 10 (by decide) (by decide))

theorem decode_of_rowStore (h : matchesRow w (0xFC000000, 0x40000000) = true) :
    decode w = .ok (.store (halfField w) (valueField w) (viewField w) (bitField w 24)) :=
  decode_of_matchesRow (ok := true) h (by decide) rfl rfl

theorem decode_of_rowLoad (h : matchesRow w (0xFCFF0000, 0x44000000) = true) :
    decode w = .ok (.load (halfField w) (viewField w) (bitField w 24)) :=
  decode_of_matchesRow h (by decide) rfl (zeroBits_of_matchesRow h 16 8 (by decide) (by decide))

theorem decode_of_rowSetcpu (h : matchesRow w (0xFFFF0000, 0x4C000000) = true) :
    decode w = .ok (.setcpu (highByteField w) (lowByteField w)) :=
  decode_of_matchesRow h (by decide) rfl (zeroBits_of_matchesRow h 16 10 (by decide) (by decide))

theorem decode_of_rowCtrDec (h : matchesRow w (0xFC03FFFE, 0x68000000) = true) :
    decode w = .ok (.ctrDec (instField w) (bitField w 0)) :=
  decode_of_matchesRow h (by decide) rfl (zeroBits_of_matchesRow h 1 17 (by decide) (by decide))

theorem decode_of_rowAndNotify (h : matchesRow w (0xFC03E0FE, 0xC0000000) = true) :
    decode w = .ok (.andNotify (instField w) (kindField w) (bitField w 0)) :=
  decode_of_matchesRow h (by decide) rfl (Bool.and_eq_true_iff.mpr
    ⟨zeroBits_of_matchesRow h 13 5 (by decide) (by decide), zeroBits_of_matchesRow h 1 7 (by decide) (by decide)⟩)

theorem decode_of_rowWandSet (h : matchesRow w (0xFC03FEFE, 0xE0000000) = true) :
    decode w = .ok (.wandSet (instField w) (lineField w) (bitField w 0)) :=
  decode_of_matchesRow h (by decide) rfl (Bool.and_eq_true_iff.mpr
    ⟨zeroBits_of_matchesRow h 9 9 (by decide) (by decide), zeroBits_of_matchesRow h 1 7 (by decide) (by decide)⟩)

end

/-! ## Decoding an encoded operation -/

section
variable {o : BitVec 6}

/-- The word of a format-A or format-P0 operation holds its operand where the decoder reads it. -/
theorem decode_wordP0 {mk : BitVec 8 → Instr} {m : ReqWord} (a : BitVec 8)
    (h : matchesRow (wordP0 o a) (0xFC03FFFF, m) = true)
    (hrow : decodeRow (opcField m).toNat (wordP0 o a) = formatP0 (wordP0 o a) mk) (hm : zeroBits m 0 18 = true) :
    decode (wordP0 o a) = .ok (mk a) := by
  rw [decode_of_rowP0 h hrow hm, instField_wordP0]

theorem decode_wordL {mk : BitVec 8 → Instr} {m : ReqWord} (id : BitVec 8)
    (h : matchesRow (wordL o id) (0xFFFFFF00, m) = true)
    (hrow : decodeRow (opcField m).toNat (wordL o id) = formatL (wordL o id) mk) (hm : zeroBits m 8 18 = true) :
    decode (wordL o id) = .ok (mk id) := by
  rw [decode_of_rowL h hrow hm, lowByteField_wordL]

theorem decode_wordPB {mk : BitVec 8 → Byte → Instr} {m : ReqWord} (i : BitVec 8) (b : Byte)
    (h : matchesRow (wordPB o i b) (0xFC03FF00, m) = true)
    (hrow : decodeRow (opcField m).toNat (wordPB o i b) = formatPB (wordPB o i b) mk) (hm : zeroBits m 8 10 = true) :
    decode (wordPB o i b) = .ok (mk i b) := by
  rw [decode_of_rowPB h hrow hm, instField_wordPB, lowByteField_wordPB]

end

theorem decode_encode_setrate (imm : Word16) : decode (encode (.setrate imm)) = .ok (.setrate imm) := by
  have hw := encode_setrate_toNat imm
  have himm : halfField (encode (.setrate imm)) = imm :=
    BitVec.eq_of_toNat_eq (by rw [halfField_toNat]; omega)
  rw [decode_of_rowSetrate (Laws.MatchesRow.setrate imm), himm]

theorem decode_encode_store (addr : Addr) (value : Byte) (view : View) (aec : Bit) :
    decode (encode (.store addr value view aec)) = .ok (.store addr value view aec) := by
  have hw := encode_store_toNat addr value view aec
  have hviewLt := (viewBit view).isLt
  have haecLt := (bit1 aec).isLt
  have haddr : halfField (encode (.store addr value view aec)) = addr :=
    BitVec.eq_of_toNat_eq (by rw [halfField_toNat]; omega)
  have hvalue : valueField (encode (.store addr value view aec)) = value :=
    BitVec.eq_of_toNat_eq (by rw [valueField_toNat]; omega)
  have hview : viewField (encode (.store addr value view aec)) = view := viewField_eq_of_toNat (by omega)
  have haec : bitField (encode (.store addr value view aec)) 24 = aec := bitField_eq_of_toNat (by omega)
  rw [decode_of_rowStore (Laws.MatchesRow.store addr value view aec), haddr, hvalue, hview, haec]

theorem decode_encode_load (addr : Addr) (view : View) (aec : Bit) :
    decode (encode (.load addr view aec)) = .ok (.load addr view aec) := by
  have hw := encode_load_toNat addr view aec
  have hviewLt := (viewBit view).isLt
  have haecLt := (bit1 aec).isLt
  have haddr : halfField (encode (.load addr view aec)) = addr :=
    BitVec.eq_of_toNat_eq (by rw [halfField_toNat]; omega)
  have hview : viewField (encode (.load addr view aec)) = view := viewField_eq_of_toNat (by omega)
  have haec : bitField (encode (.load addr view aec)) 24 = aec := bitField_eq_of_toNat (by omega)
  rw [decode_of_rowLoad (Laws.MatchesRow.load addr view aec), haddr, hview, haec]

theorem decode_encode_setcpu (r w : BitVec 8) : decode (encode (.setcpu r w)) = .ok (.setcpu r w) := by
  have hw := encode_setcpu_toNat r w
  have hrd : highByteField (encode (.setcpu r w)) = r := BitVec.eq_of_toNat_eq (by rw [highByteField_toNat]; omega)
  have hwr : lowByteField (encode (.setcpu r w)) = w := BitVec.eq_of_toNat_eq (by rw [lowByteField_toNat]; omega)
  rw [decode_of_rowSetcpu (Laws.MatchesRow.setcpu r w), hrd, hwr]

theorem decode_encode_ctrDec (i : BitVec 8) (on : Bit) : decode (encode (.ctrDec i on)) = .ok (.ctrDec i on) := by
  have hw := encode_ctrDec_toNat i on
  have honLt := (bit1 on).isLt
  have hi : instField (encode (.ctrDec i on)) = i := BitVec.eq_of_toNat_eq (by rw [instField_toNat]; omega)
  have hon : bitField (encode (.ctrDec i on)) 0 = on := bitField_eq_of_toNat (by omega)
  rw [decode_of_rowCtrDec (Laws.MatchesRow.ctrDec i on), hi, hon]

theorem decode_encode_andNotify (i : BitVec 8) (kind : BitVec 5) (level : Bit) :
    decode (encode (.andNotify i kind level)) = .ok (.andNotify i kind level) := by
  have hw := encode_andNotify_toNat i kind level
  have hlevelLt := (bit1 level).isLt
  have hi : instField (encode (.andNotify i kind level)) = i :=
    BitVec.eq_of_toNat_eq (by rw [instField_toNat]; omega)
  have hkind : kindField (encode (.andNotify i kind level)) = kind :=
    BitVec.eq_of_toNat_eq (by rw [kindField_toNat]; omega)
  have hlevel : bitField (encode (.andNotify i kind level)) 0 = level := bitField_eq_of_toNat (by omega)
  rw [decode_of_rowAndNotify (Laws.MatchesRow.andNotify i kind level), hi, hkind, hlevel]

theorem decode_encode_wandSet (i : BitVec 8) (line : WireLine) (level : Bit) :
    decode (encode (.wandSet i line level)) = .ok (.wandSet i line level) := by
  have hw := encode_wandSet_toNat i line level
  have hlineLt := (lineBit line).isLt
  have hlevelLt := (bit1 level).isLt
  have hi : instField (encode (.wandSet i line level)) = i :=
    BitVec.eq_of_toNat_eq (by rw [instField_toNat]; omega)
  have hline : lineField (encode (.wandSet i line level)) = line := lineField_eq_of_toNat (by omega)
  have hlevel : bitField (encode (.wandSet i line level)) 0 = level := bitField_eq_of_toNat (by omega)
  rw [decode_of_rowWandSet (Laws.MatchesRow.wandSet i line level), hi, hline, hlevel]

/-- Settles O1: the word of an operation matches the operation's row, so it decodes to that row's operation on the
operands that the word holds. -/
theorem decodeEncodeRoundTrip : Obligations.DecodeEncodeRoundTrip := by
  intro i
  cases i with
  | announce a => exact decode_wordP0 a (Laws.MatchesRow.announce a) rfl (by decide)
  | wait a => exact decode_wordP0 a (Laws.MatchesRow.wait a) rfl (by decide)
  | release => exact decode_of_rowN Laws.MatchesRow.release rfl (by decide)
  | allfin => exact decode_of_rowN Laws.MatchesRow.allfin rfl (by decide)
  | start => exact decode_of_rowN Laws.MatchesRow.start rfl (by decide)
  | stop => exact decode_of_rowN Laws.MatchesRow.stop rfl (by decide)
  | tick => exact decode_of_rowN Laws.MatchesRow.tick rfl (by decide)
  | setrate imm => exact decode_encode_setrate imm
  | getrate => exact decode_of_rowN Laws.MatchesRow.getrate rfl (by decide)
  | todreg id => exact decode_wordL id (Laws.MatchesRow.todreg id) rfl (by decide)
  | store addr value view aec => exact decode_encode_store addr value view aec
  | load addr view aec => exact decode_encode_load addr view aec
  | isinit => exact decode_of_rowN Laws.MatchesRow.isinit rfl (by decide)
  | setcpu r w => exact decode_encode_setcpu r w
  | setvic id => exact decode_wordL id (Laws.MatchesRow.setvic id) rfl (by decide)
  | setcolor id => exact decode_wordL id (Laws.MatchesRow.setcolor id) rfl (by decide)
  | ctrWlo j b => exact decode_wordPB j b (Laws.MatchesRow.ctrWlo j b) rfl (by decide)
  | ctrWhi j b => exact decode_wordPB j b (Laws.MatchesRow.ctrWhi j b) rfl (by decide)
  | ctrDec j on => exact decode_encode_ctrDec j on
  | ctrClk j => exact decode_wordP0 j (Laws.MatchesRow.ctrClk j) rfl (by decide)
  | ctrZero j => exact decode_wordP0 j (Laws.MatchesRow.ctrZero j) rfl (by decide)
  | ctrRead j => exact decode_wordP0 j (Laws.MatchesRow.ctrRead j) rfl (by decide)
  | ffSet j => exact decode_wordP0 j (Laws.MatchesRow.ffSet j) rfl (by decide)
  | ffRst j => exact decode_wordP0 j (Laws.MatchesRow.ffRst j) rfl (by decide)
  | ffInv j => exact decode_wordP0 j (Laws.MatchesRow.ffInv j) rfl (by decide)
  | ffGet j => exact decode_wordP0 j (Laws.MatchesRow.ffGet j) rfl (by decide)
  | dffSet j => exact decode_wordP0 j (Laws.MatchesRow.dffSet j) rfl (by decide)
  | dffRst j => exact decode_wordP0 j (Laws.MatchesRow.dffRst j) rfl (by decide)
  | dffInv j => exact decode_wordP0 j (Laws.MatchesRow.dffInv j) rfl (by decide)
  | dffClk j => exact decode_wordP0 j (Laws.MatchesRow.dffClk j) rfl (by decide)
  | dffGet j => exact decode_wordP0 j (Laws.MatchesRow.dffGet j) rfl (by decide)
  | andNotify j kind level => exact decode_encode_andNotify j kind level
  | wandSet j line level => exact decode_encode_wandSet j line level
  | wandGet j => exact decode_wordP0 j (Laws.MatchesRow.wandGet j) rfl (by decide)

/-! ## Encoding a decoded operation -/

section
variable {w : ReqWord} {i : Instr} {o : BitVec 6}

/-- A word of format N is its opcode and nothing else, so the decoder drops no bit. -/
theorem encode_of_formatN {j : Instr} (ho : (opcField w).toNat = o.toNat) (hj : encode j = wordN o)
    (h : formatN w j = .ok i) : encode i = w := by
  obtain ⟨hz, rfl⟩ := guarded_ok.mp h
  rw [opcField_toNat] at ho
  rw [zeroBits_iff] at hz
  apply BitVec.eq_of_toNat_eq
  rw [hj, wordN_toNat]
  omega

theorem encode_of_formatP0 {mk : BitVec 8 → Instr} (ho : (opcField w).toNat = o.toNat)
    (hmk : ∀ a, encode (mk a) = wordP0 o a) (h : formatP0 w mk = .ok i) : encode i = w := by
  obtain ⟨hz, rfl⟩ := guarded_ok.mp h
  rw [opcField_toNat] at ho
  rw [zeroBits_iff] at hz
  apply BitVec.eq_of_toNat_eq
  rw [hmk, wordP0_toNat, instField_toNat]
  omega

theorem encode_of_formatL {mk : BitVec 8 → Instr} (ho : (opcField w).toNat = o.toNat)
    (hmk : ∀ a, encode (mk a) = wordL o a) (h : formatL w mk = .ok i) : encode i = w := by
  obtain ⟨hz, rfl⟩ := guarded_ok.mp h
  rw [opcField_toNat] at ho
  rw [zeroBits_iff] at hz
  apply BitVec.eq_of_toNat_eq
  rw [hmk, wordL_toNat, lowByteField_toNat]
  omega

theorem encode_of_formatPB {mk : BitVec 8 → Byte → Instr} (ho : (opcField w).toNat = o.toNat)
    (hmk : ∀ a b, encode (mk a b) = wordPB o a b) (h : formatPB w mk = .ok i) : encode i = w := by
  obtain ⟨hz, rfl⟩ := guarded_ok.mp h
  rw [opcField_toNat] at ho
  rw [zeroBits_iff] at hz
  apply BitVec.eq_of_toNat_eq
  rw [hmk, wordPB_toNat, instField_toNat, lowByteField_toNat]
  omega

theorem encode_setrate_fields (ho : (opcField w).toNat = 0x0B) (hz : zeroBits w 16 10 = true) :
    encode (.setrate (halfField w)) = w := by
  rw [opcField_toNat] at ho
  rw [zeroBits_iff] at hz
  apply BitVec.eq_of_toNat_eq
  rw [encode_setrate_toNat, halfField_toNat]
  omega

theorem encode_store_fields (ho : (opcField w).toNat = 0x10) :
    encode (.store (halfField w) (valueField w) (viewField w) (bitField w 24)) = w := by
  rw [opcField_toNat] at ho
  apply BitVec.eq_of_toNat_eq
  rw [encode_store_toNat, halfField_toNat, valueField_toNat, viewBit_viewField_toNat, bit1_bitField_toNat]
  omega

theorem encode_load_fields (ho : (opcField w).toNat = 0x11) (hz : zeroBits w 16 8 = true) :
    encode (.load (halfField w) (viewField w) (bitField w 24)) = w := by
  rw [opcField_toNat] at ho
  rw [zeroBits_iff] at hz
  apply BitVec.eq_of_toNat_eq
  rw [encode_load_toNat, halfField_toNat, viewBit_viewField_toNat, bit1_bitField_toNat]
  omega

theorem encode_setcpu_fields (ho : (opcField w).toNat = 0x13) (hz : zeroBits w 16 10 = true) :
    encode (.setcpu (highByteField w) (lowByteField w)) = w := by
  rw [opcField_toNat] at ho
  rw [zeroBits_iff] at hz
  apply BitVec.eq_of_toNat_eq
  rw [encode_setcpu_toNat, highByteField_toNat, lowByteField_toNat]
  omega

theorem encode_ctrDec_fields (ho : (opcField w).toNat = 0x1A) (hz : zeroBits w 1 17 = true) :
    encode (.ctrDec (instField w) (bitField w 0)) = w := by
  rw [opcField_toNat] at ho
  rw [zeroBits_iff] at hz
  apply BitVec.eq_of_toNat_eq
  rw [encode_ctrDec_toNat, instField_toNat, bit1_bitField_toNat]
  omega

theorem encode_andNotify_fields (ho : (opcField w).toNat = 0x30) (hhigh : zeroBits w 13 5 = true)
    (hlow : zeroBits w 1 7 = true) : encode (.andNotify (instField w) (kindField w) (bitField w 0)) = w := by
  rw [opcField_toNat] at ho
  rw [zeroBits_iff] at hhigh hlow
  apply BitVec.eq_of_toNat_eq
  rw [encode_andNotify_toNat, instField_toNat, kindField_toNat, bit1_bitField_toNat]
  omega

theorem encode_wandSet_fields (ho : (opcField w).toNat = 0x38) (hhigh : zeroBits w 9 9 = true)
    (hlow : zeroBits w 1 7 = true) : encode (.wandSet (instField w) (lineField w) (bitField w 0)) = w := by
  rw [opcField_toNat] at ho
  rw [zeroBits_iff] at hhigh hlow
  apply BitVec.eq_of_toNat_eq
  rw [encode_wandSet_toNat, instField_toNat, lineBit_lineField_toNat, bit1_bitField_toNat]
  omega

/-- Opcode by opcode: the word is put together again from its opcode, the fields read from it and zeros. -/
theorem encode_of_decodeRow {opc : Nat} (ho : (opcField w).toNat = opc) (h : decodeRow opc w = .ok i) :
    encode i = w := by
  unfold decodeRow at h
  split at h
  case h_1 => exact encode_of_formatP0 (o := 0x01#6) ho (fun _ => rfl) h
  case h_2 => exact encode_of_formatP0 (o := 0x02#6) ho (fun _ => rfl) h
  case h_3 => exact encode_of_formatN (o := 0x03#6) ho rfl h
  case h_4 => exact encode_of_formatN (o := 0x04#6) ho rfl h
  case h_5 => exact encode_of_formatN (o := 0x08#6) ho rfl h
  case h_6 => exact encode_of_formatN (o := 0x09#6) ho rfl h
  case h_7 => exact encode_of_formatN (o := 0x0A#6) ho rfl h
  case h_8 =>
    obtain ⟨hz, rfl⟩ := guarded_ok.mp h
    exact encode_setrate_fields ho hz
  case h_9 => exact encode_of_formatN (o := 0x0C#6) ho rfl h
  case h_10 => exact encode_of_formatL (o := 0x0D#6) ho (fun _ => rfl) h
  case h_11 =>
    cases h
    exact encode_store_fields ho
  case h_12 =>
    obtain ⟨hz, rfl⟩ := guarded_ok.mp h
    exact encode_load_fields ho hz
  case h_13 => exact encode_of_formatN (o := 0x12#6) ho rfl h
  case h_14 =>
    obtain ⟨hz, rfl⟩ := guarded_ok.mp h
    exact encode_setcpu_fields ho hz
  case h_15 => exact encode_of_formatL (o := 0x14#6) ho (fun _ => rfl) h
  case h_16 => exact encode_of_formatL (o := 0x15#6) ho (fun _ => rfl) h
  case h_17 => exact encode_of_formatPB (o := 0x18#6) ho (fun _ _ => rfl) h
  case h_18 => exact encode_of_formatPB (o := 0x19#6) ho (fun _ _ => rfl) h
  case h_19 =>
    obtain ⟨hz, rfl⟩ := guarded_ok.mp h
    exact encode_ctrDec_fields ho hz
  case h_20 => exact encode_of_formatP0 (o := 0x1B#6) ho (fun _ => rfl) h
  case h_21 => exact encode_of_formatP0 (o := 0x1C#6) ho (fun _ => rfl) h
  case h_22 => exact encode_of_formatP0 (o := 0x1D#6) ho (fun _ => rfl) h
  case h_23 => exact encode_of_formatP0 (o := 0x20#6) ho (fun _ => rfl) h
  case h_24 => exact encode_of_formatP0 (o := 0x21#6) ho (fun _ => rfl) h
  case h_25 => exact encode_of_formatP0 (o := 0x22#6) ho (fun _ => rfl) h
  case h_26 => exact encode_of_formatP0 (o := 0x23#6) ho (fun _ => rfl) h
  case h_27 => exact encode_of_formatP0 (o := 0x28#6) ho (fun _ => rfl) h
  case h_28 => exact encode_of_formatP0 (o := 0x29#6) ho (fun _ => rfl) h
  case h_29 => exact encode_of_formatP0 (o := 0x2A#6) ho (fun _ => rfl) h
  case h_30 => exact encode_of_formatP0 (o := 0x2B#6) ho (fun _ => rfl) h
  case h_31 => exact encode_of_formatP0 (o := 0x2C#6) ho (fun _ => rfl) h
  case h_32 =>
    obtain ⟨hz, rfl⟩ := guarded_ok.mp h
    obtain ⟨hhigh, hlow⟩ := Bool.and_eq_true_iff.mp hz
    exact encode_andNotify_fields ho hhigh hlow
  case h_33 =>
    obtain ⟨hz, rfl⟩ := guarded_ok.mp h
    obtain ⟨hhigh, hlow⟩ := Bool.and_eq_true_iff.mp hz
    exact encode_wandSet_fields ho hhigh hlow
  case h_34 => exact encode_of_formatP0 (o := 0x39#6) ho (fun _ => rfl) h
  case h_35 => cases h

end

/-- Settles O2: in every row, the must-be-zero bits and the fields cover the whole word. -/
theorem encodeDecodeRoundTrip : Obligations.EncodeDecodeRoundTrip := by
  intro w i h
  exact encode_of_decodeRow rfl h

/-! ## The opcode map -/

/-- The word of every operation matches the row that the map gives the operation. -/
theorem encode_matchesRow (i : Instr) : matchesRow (encode i) (opcodeRows.getD (rowIndex i) (0, 0)) = true := by
  cases i with
  | announce a => exact Laws.MatchesRow.announce a
  | wait a => exact Laws.MatchesRow.wait a
  | release => exact Laws.MatchesRow.release
  | allfin => exact Laws.MatchesRow.allfin
  | start => exact Laws.MatchesRow.start
  | stop => exact Laws.MatchesRow.stop
  | tick => exact Laws.MatchesRow.tick
  | setrate imm => exact Laws.MatchesRow.setrate imm
  | getrate => exact Laws.MatchesRow.getrate
  | todreg id => exact Laws.MatchesRow.todreg id
  | store addr value view aec => exact Laws.MatchesRow.store addr value view aec
  | load addr view aec => exact Laws.MatchesRow.load addr view aec
  | isinit => exact Laws.MatchesRow.isinit
  | setcpu r w => exact Laws.MatchesRow.setcpu r w
  | setvic id => exact Laws.MatchesRow.setvic id
  | setcolor id => exact Laws.MatchesRow.setcolor id
  | ctrWlo j b => exact Laws.MatchesRow.ctrWlo j b
  | ctrWhi j b => exact Laws.MatchesRow.ctrWhi j b
  | ctrDec j on => exact Laws.MatchesRow.ctrDec j on
  | ctrClk j => exact Laws.MatchesRow.ctrClk j
  | ctrZero j => exact Laws.MatchesRow.ctrZero j
  | ctrRead j => exact Laws.MatchesRow.ctrRead j
  | ffSet j => exact Laws.MatchesRow.ffSet j
  | ffRst j => exact Laws.MatchesRow.ffRst j
  | ffInv j => exact Laws.MatchesRow.ffInv j
  | ffGet j => exact Laws.MatchesRow.ffGet j
  | dffSet j => exact Laws.MatchesRow.dffSet j
  | dffRst j => exact Laws.MatchesRow.dffRst j
  | dffInv j => exact Laws.MatchesRow.dffInv j
  | dffClk j => exact Laws.MatchesRow.dffClk j
  | dffGet j => exact Laws.MatchesRow.dffGet j
  | andNotify j kind level => exact Laws.MatchesRow.andNotify j kind level
  | wandSet j line level => exact Laws.MatchesRow.wandSet j line level
  | wandGet j => exact Laws.MatchesRow.wandGet j

/-- Every row of the map is a row of the decoder: a word that matches one decodes. -/
theorem decodes_of_matchesRow {w : ReqWord} :
    ∀ row ∈ opcodeRows, matchesRow w row = true → ∃ i, decode w = .ok i := by
  simp only [opcodeRows, List.forall_mem_cons]
  exact ⟨
    fun h => ⟨_, decode_of_rowP0 (mk := .announce) h rfl (by decide)⟩,
    fun h => ⟨_, decode_of_rowP0 (mk := .wait) h rfl (by decide)⟩,
    fun h => ⟨_, decode_of_rowN (i := .release) h rfl (by decide)⟩,
    fun h => ⟨_, decode_of_rowN (i := .allfin) h rfl (by decide)⟩,
    fun h => ⟨_, decode_of_rowN (i := .start) h rfl (by decide)⟩,
    fun h => ⟨_, decode_of_rowN (i := .stop) h rfl (by decide)⟩,
    fun h => ⟨_, decode_of_rowN (i := .tick) h rfl (by decide)⟩,
    fun h => ⟨_, decode_of_rowSetrate h⟩,
    fun h => ⟨_, decode_of_rowN (i := .getrate) h rfl (by decide)⟩,
    fun h => ⟨_, decode_of_rowL (mk := .todreg) h rfl (by decide)⟩,
    fun h => ⟨_, decode_of_rowStore h⟩,
    fun h => ⟨_, decode_of_rowLoad h⟩,
    fun h => ⟨_, decode_of_rowN (i := .isinit) h rfl (by decide)⟩,
    fun h => ⟨_, decode_of_rowSetcpu h⟩,
    fun h => ⟨_, decode_of_rowL (mk := .setvic) h rfl (by decide)⟩,
    fun h => ⟨_, decode_of_rowL (mk := .setcolor) h rfl (by decide)⟩,
    fun h => ⟨_, decode_of_rowPB (mk := .ctrWlo) h rfl (by decide)⟩,
    fun h => ⟨_, decode_of_rowPB (mk := .ctrWhi) h rfl (by decide)⟩,
    fun h => ⟨_, decode_of_rowCtrDec h⟩,
    fun h => ⟨_, decode_of_rowP0 (mk := .ctrClk) h rfl (by decide)⟩,
    fun h => ⟨_, decode_of_rowP0 (mk := .ctrZero) h rfl (by decide)⟩,
    fun h => ⟨_, decode_of_rowP0 (mk := .ctrRead) h rfl (by decide)⟩,
    fun h => ⟨_, decode_of_rowP0 (mk := .ffSet) h rfl (by decide)⟩,
    fun h => ⟨_, decode_of_rowP0 (mk := .ffRst) h rfl (by decide)⟩,
    fun h => ⟨_, decode_of_rowP0 (mk := .ffInv) h rfl (by decide)⟩,
    fun h => ⟨_, decode_of_rowP0 (mk := .ffGet) h rfl (by decide)⟩,
    fun h => ⟨_, decode_of_rowP0 (mk := .dffSet) h rfl (by decide)⟩,
    fun h => ⟨_, decode_of_rowP0 (mk := .dffRst) h rfl (by decide)⟩,
    fun h => ⟨_, decode_of_rowP0 (mk := .dffInv) h rfl (by decide)⟩,
    fun h => ⟨_, decode_of_rowP0 (mk := .dffClk) h rfl (by decide)⟩,
    fun h => ⟨_, decode_of_rowP0 (mk := .dffGet) h rfl (by decide)⟩,
    fun h => ⟨_, decode_of_rowAndNotify h⟩,
    fun h => ⟨_, decode_of_rowWandSet h⟩,
    fun h => ⟨_, decode_of_rowP0 (mk := .wandGet) h rfl (by decide)⟩,
    fun _ hrow => absurd hrow List.not_mem_nil⟩

/-- Two rows disagree on a bit that both masks keep. -/
theorem opcodeRows_clash : opcodeRows.Pairwise fun r q => r.2 &&& q.1 ≠ q.2 &&& r.1 := by decide

/-- A word matches at most one row. -/
theorem opcodeRows_exclusive (w : ReqWord) :
    opcodeRows.Pairwise fun r q => ¬(matchesRow w r = true ∧ matchesRow w q = true) := by
  refine opcodeRows_clash.imp ?_
  rintro r q hclash ⟨hr, hq⟩
  have hr : w &&& r.1 = r.2 := beq_iff_eq.mp hr
  have hq : w &&& q.1 = q.2 := beq_iff_eq.mp hq
  exact hclash (by rw [← hr, ← hq, BitVec.and_assoc, BitVec.and_assoc, BitVec.and_comm r.1])

theorem rowIndex_lt (i : Instr) : rowIndex i < opcodeRows.length := by
  cases i <;> exact of_decide_eq_true rfl

/-- The first row that the word of `i` matches is that of `i`: no row before it matches too. -/
theorem findIdx?_encode (i : Instr) : opcodeRows.findIdx? (matchesRow (encode i)) = some (rowIndex i) := by
  have hlt := rowIndex_lt i
  have hmatch : matchesRow (encode i) opcodeRows[rowIndex i] = true := by
    have h := encode_matchesRow i
    rwa [List.getD_eq_getElem _ _ hlt] at h
  rw [List.findIdx?_eq_some_iff_getElem]
  refine ⟨hlt, hmatch, fun j hj hmatch' => ?_⟩
  exact List.pairwise_iff_getElem.mp (opcodeRows_exclusive (encode i)) j (rowIndex i) _ hlt hj ⟨hmatch', hmatch⟩

/-- Settles O3: a word that decodes is the word of its operation and matches that operation's row; a word that matches a
row decodes. -/
theorem decoderFollowsTheOpcodeMap : Obligations.DecoderFollowsTheOpcodeMap := by
  intro w
  refine ⟨?_, opcodeRows_exclusive w⟩
  cases hd : decode w with
  | ok i =>
    have hw := encodeDecodeRoundTrip w i hd
    rw [← hw, findIdx?_encode]
    rfl
  | error e =>
    have hnone : opcodeRows.findIdx? (matchesRow w) = none := by
      refine List.findIdx?_eq_none_iff.mpr fun row hrow => ?_
      rw [Bool.eq_false_iff]
      intro hmatch
      obtain ⟨i, hi⟩ := decodes_of_matchesRow row hrow hmatch
      rw [hd] at hi
      cases hi
    rw [hnone]
    rfl

/-- A word that matches no row decodes to nothing (30_encoding R98). -/
theorem decode_of_no_row {w : ReqWord} (h : ∀ row ∈ opcodeRows, matchesRow w row = false) :
    decode w = .error .illegalRequest := by
  cases hd : decode w with
  | ok i =>
    have hfind := findIdx?_encode i
    rw [encodeDecodeRoundTrip w i hd, List.findIdx?_eq_none_iff.mpr h] at hfind
    cases hfind
  | error e =>
    cases e
    rfl

/-! ## Written words -/

/-- A written word decodes to the operation whose word it is. -/
theorem decode_eq_of_encode {w : ReqWord} {i : Instr} (h : encode i = w) : decode w = .ok i := by
  rw [← h]
  exact decodeEncodeRoundTrip i

/-- Settles O4: the seven words are the words of their operations; the eighth has a must-be-zero bit set. -/
theorem writtenWordsDecode : Obligations.WrittenWordsDecode :=
  ⟨decode_eq_of_encode (by decide), decode_eq_of_encode (by decide), decode_eq_of_encode (by decide),
    decode_eq_of_encode (by decide), decode_eq_of_encode (by decide), decode_eq_of_encode (by decide),
    decode_eq_of_encode (by decide), by decide, rfl⟩

end Sys2Proof
end

section
/-! SUPPORT. How a step serves the next request, and the refusal of an operation on a primitive that the block does not
have. -/

namespace Sys2Proof.Machine

variable {s : State} {i : Instr}

/-! ## Serving the next request -/

/-- The next request of an agent that may step is performed (30_encoding R90). -/
theorem step_of_decode {r : Request} {rest : List Request}
    (hnext : nextRequest s.bar.blocked s.port.requests = some (r, rest)) (hd : decode r.word = .ok i)
    (hmay : mayStep s.bar.blocked r.issuer = true) : step s = exec i (s.serving r rest) := by
  simp only [step, hnext, hd, hmay, if_true]

/-- A word that is no request is refused when it comes to be served (30_encoding R98). -/
theorem step_of_illegal {r : Request} {rest : List Request}
    (hnext : nextRequest s.bar.blocked s.port.requests = some (r, rest))
    (hd : decode r.word = .error .illegalRequest) : step s = .refused .illegalRequest := by
  simp only [step, hnext, hd]

/-- Settles O5: an issuer that is not blocked may step. -/
theorem stepRunsTheDecodedRequest : Obligations.StepRunsTheDecodedRequest := by
  intro s r rest i hnext hd hissuer
  exact step_of_decode hnext hd (mayStep_true.mpr hissuer)

/-- Settles O7: a word that matches no row decodes to nothing. -/
theorem unmatchedWordIsRefused : Obligations.UnmatchedWordIsRefused := by
  intro s r rest hnext hall
  have hrows : ∀ row ∈ opcodeRows, matchesRow r.word row = false := by simpa using hall
  exact step_of_illegal hnext (decode_of_no_row hrows)

/-- A 32-bit word survives its reading as a number. -/
theorem tableWord_toNat (w : ReqWord) : tableWord 32 w.toNat = w := by
  rw [tableWord, Nat.mod_eq_of_lt w.isLt, BitVec.ofNat_toNat, BitVec.setWidth_eq]

/-- The word placed by the host is the next request, and the others stay. -/
theorem nextRequest_withFetchWord (s : State) (w : ReqWord) :
    nextRequest (s.withFetchWord 32 w.toNat).bar.blocked (s.withFetchWord 32 w.toNat).port.requests =
      some (⟨.host, w⟩, s.port.requests) := by
  simp [State.withFetchWord, nextRequest, takesUp, mayStep, tableWord_toNat]

/-- Settles O6: the host's word comes first, decodes to its operation, and the host is never blocked. -/
theorem placedWordRunsNext : Obligations.PlacedWordRunsNext := by
  intro s i
  exact step_of_decode (nextRequest_withFetchWord s (encode i)) (decodeEncodeRoundTrip i) rfl

/-! ## A primitive that the block does not have -/

theorem onCounter_absent {j : BitVec 8} (h : s.ctr.length ≤ j.toNat) (k : Counter → Result) :
    onCounter j s k = .refused .noSuchInstance := by
  rw [onCounter, List.getElem?_eq_none h]

theorem onFlipFlop_absent {j : BitVec 8} (h : s.ff.length ≤ j.toNat) (k : FlipFlop → Result) :
    onFlipFlop j s k = .refused .noSuchInstance := by
  rw [onFlipFlop, List.getElem?_eq_none h]

theorem onDelayFlipFlop_absent {j : BitVec 8} (h : s.dff.length ≤ j.toNat) (k : DelayFlipFlop → Result) :
    onDelayFlipFlop j s k = .refused .noSuchInstance := by
  rw [onDelayFlipFlop, List.getElem?_eq_none h]

theorem onWireAnd_absent {j : BitVec 8} (h : s.wand.length ≤ j.toNat) (k : WireAnd → Result) :
    onWireAnd j s k = .refused .noSuchInstance := by
  rw [onWireAnd, List.getElem?_eq_none h]

theorem execAndNotify_absent {j : BitVec 8} (h : s.andp.length ≤ j.toNat) (kind : BitVec 5) (level : Bit) :
    execAndNotify j kind level s = .refused .noSuchInstance := by
  simp [execAndNotify, List.getElem?_eq_none h]

/-- Settles O59: every operation of a primitive first looks up the one it names. -/
theorem absentInstanceIsRefused : Obligations.AbsentInstanceIsRefused := by
  intro j s b x kind line
  refine ⟨fun h => ?ctr, fun h => ?ff, fun h => ?dff, fun h => ?andp, fun h => ?wand⟩
  case andp => exact execAndNotify_absent h kind x
  all_goals simp only [List.forall_mem_cons]
  case ctr =>
    exact ⟨onCounter_absent h _, onCounter_absent h _, onCounter_absent h _, onCounter_absent h _,
      onCounter_absent h _, onCounter_absent h _, fun _ ho => absurd ho List.not_mem_nil⟩
  case ff =>
    exact ⟨onFlipFlop_absent h _, onFlipFlop_absent h _, onFlipFlop_absent h _, onFlipFlop_absent h _,
      fun _ ho => absurd ho List.not_mem_nil⟩
  case dff =>
    exact ⟨onDelayFlipFlop_absent h _, onDelayFlipFlop_absent h _, onDelayFlipFlop_absent h _,
      onDelayFlipFlop_absent h _, onDelayFlipFlop_absent h _, fun _ ho => absurd ho List.not_mem_nil⟩
  case wand => exact ⟨onWireAnd_absent h _, onWireAnd_absent h _, fun _ ho => absurd ho List.not_mem_nil⟩

end Sys2Proof.Machine
end

section
/-! SUPPORT. Which operations complete: on a constructed block every delivery ends, so an operation answers a next state
exactly where its range checks pass and its caller is not blocked. -/

namespace Sys2Proof.Machine

variable {s : State} {i : Instr}

/-! ## Deliveries end -/

/-- Where the chain of targets from AndPort `j` ends within `fuel` ports, so does a delivery to it (44_signals R223). -/
theorem andDeliver_ends : ∀ {fuel : Nat} {s : State} {j : Nat} (kind : BitVec 5) (level : Bit),
    chainEnds s.cfg.andCfg fuel j = true → s.andp.length = s.cfg.nAnd → ∃ t, andDeliver fuel s j kind level = some t
  | 0, _, _, _, _, hchain, _ => by cases hchain
  | fuel + 1, s, j, kind, level, hchain, hcount => by
    rw [chainEnds] at hchain
    cases hc : s.cfg.andCfg[j]? with
    | none =>
      rw [hc] at hchain
      cases hchain
    | some c =>
      obtain ⟨hj, -⟩ := List.getElem?_eq_some_iff.mp hc
      obtain ⟨p, hp⟩ : ∃ p, s.andp[j]? = some p := ⟨_, List.getElem?_eq_getElem (hcount.symm ▸ hj)⟩
      simp only [hc] at hchain
      simp only [andDeliver, hc, hp]
      cases driveSlot c kind level p with
      | none => exact ⟨_, rfl⟩
      | some q =>
        cases ht : c.target with
        | ext e => exact ⟨_, rfl⟩
        | andPort k =>
          simp only [ht] at hchain
          exact andDeliver_ends _ _ hchain (List.length_set.trans hcount)

/-- On a constructed block every AndPort can be notified. -/
theorem State.Inv.andDeliver_ends (h : s.Inv) {j : Nat} (hj : j < s.cfg.nAnd) (kind : BitVec 5) (level : Bit) :
    ∃ t, andDeliver s.cfg.nAnd s j kind level = some t := by
  obtain ⟨-, -, -, -, hwiring, -⟩ := Config.wf_iff.mp h.cfgWf
  have hchain := List.all_eq_true.mp hwiring j (List.mem_range.mpr hj)
  exact Machine.andDeliver_ends kind level hchain h.andCount

theorem State.Inv.notify_ends (h : s.Inv) {r : Receiver} (hr : s.cfg.hasReceiver r = true) (kind : SignalKind)
    (level : Bit) : ∃ t, notify s r kind level = some t := by
  cases r with
  | ext e => exact ⟨_, rfl⟩
  | andPort j => exact h.andDeliver_ends (of_decide_eq_true hr) _ _

/-- A round ends, as every delivery keeps the invariant and the parameters for the next one. -/
theorem State.Inv.notifyAll_ends {kind : SignalKind} {level : Bit} : ∀ {rs : List Receiver} {s : State}, s.Inv →
    (∀ r ∈ rs, s.cfg.hasReceiver r = true) → ∃ t, notifyAll kind level rs s = some t
  | [], s, _, _ => ⟨s, rfl⟩
  | r :: rs, s, h, hrs => by
    obtain ⟨hr, hrs⟩ := List.forall_mem_cons.mp hrs
    obtain ⟨u, hu⟩ := h.notify_ends hr kind level
    have hd := notify_delivers hu
    rw [← hd.cfg] at hrs
    obtain ⟨t, ht⟩ := (hd.inv h).notifyAll_ends (kind := kind) (level := level) hrs
    exact ⟨t, by rw [notifyAll, hu, Option.bind_some, ht]⟩

/-- A round of the clock that is due notifies registered receivers only, so it ends; one that is not due does nothing. -/
theorem State.Inv.roundIf_ends (h : s.Inv) (p : Prop) [Decidable p] (kind : SignalKind) (level : Bit) :
    ∃ t, (if p then notifyAll kind level s.clk.targets s else some s) = some t ∧ t.Inv := by
  split
  · obtain ⟨t, ht⟩ := h.notifyAll_ends (kind := kind) (level := level) h.targetsExist
    exact ⟨t, ht, (notifyAll_delivers ht).inv h⟩
  · exact ⟨s, rfl, h⟩

/-- An enabled pass ends: its rising round, if due, and then its falling round, if due (41_clock R142). -/
theorem State.Inv.tickPass_ends (h : s.Inv) : ∃ t, Machine.tickPass s = some t := by
  obtain ⟨-, -, ⟨hreload, -⟩, -⟩ := Config.wf_iff.mp h.cfgWf
  have hstart := h.released.withTod (nextTod_range (Nat.le_of_succ_le hreload) h.todLe)
  obtain ⟨u, hrise, hu⟩ := hstart.roundIf_ends (s.clk.tod - 1 = 0) .tod true
  obtain ⟨t, hfall, -⟩ := hu.roundIf_ends (u.clk.tod = u.cfg.todMid) .tod false
  exact ⟨t, Option.bind_eq_some_iff.mpr ⟨u, hrise, hfall⟩⟩

/-! ## Which operations complete -/

/-- The operation has a next state. -/
def Completes (r : Result) : Prop := ∃ t, r = .next t

theorem completes_done (s : State) : Completes (done s) := ⟨_, rfl⟩
theorem completes_reply (v : Word16) (s : State) : Completes (reply v s) := ⟨_, rfl⟩

theorem not_completes_refused (r : Refusal) : ¬Completes (.refused r) := by
  rintro ⟨t, ht⟩
  cases ht

/-- An operation that carries its caller completes exactly for an agent that exists and is not blocked. -/
theorem fromAgent_completes {a : BitVec 8} {k : State → Result} (hk : Completes (k s)) :
    Completes (fromAgent a s k) ↔ a.toNat < s.cfg.nAgents ∧ a.toNat ∉ s.bar.blocked := by
  obtain ⟨t, ht⟩ := hk
  simp only [Completes, fromAgent_next, ht, exists_and_left]
  simp

/-- What goes on with element `j` of a list, if there is one, completes exactly for `j` below the list's length. -/
theorem completes_iff_of_lookup {α : Type} {l : List α} {j n : Nat} {k : α → Result} {r : Result}
    (hr : ∀ t, r = .next t ↔ ∃ x, l[j]? = some x ∧ k x = .next t) (hn : l.length = n) (hk : ∀ x, Completes (k x)) :
    Completes r ↔ decide (j < n) = true := by
  subst hn
  rw [decide_eq_true_iff]
  constructor
  · rintro ⟨t, ht⟩
    obtain ⟨x, hx, -⟩ := (hr t).mp ht
    obtain ⟨hj, -⟩ := List.getElem?_eq_some_iff.mp hx
    exact hj
  · intro hj
    obtain ⟨t, ht⟩ := hk l[j]
    exact ⟨t, (hr t).mpr ⟨_, List.getElem?_eq_getElem hj, ht⟩⟩

section
variable (h : s.Inv) {j : BitVec 8}
include h

theorem State.Inv.onCounter_completes {k : Counter → Result} (hk : ∀ c, Completes (k c)) :
    Completes (onCounter j s k) ↔ decide (j.toNat < s.cfg.nCtr) = true :=
  completes_iff_of_lookup (fun _ => onCounter_next) h.ctrCount hk

theorem State.Inv.onFlipFlop_completes {k : FlipFlop → Result} (hk : ∀ f, Completes (k f)) :
    Completes (onFlipFlop j s k) ↔ decide (j.toNat < s.cfg.nFf) = true :=
  completes_iff_of_lookup (fun _ => onFlipFlop_next) h.ffCount hk

theorem State.Inv.onDelayFlipFlop_completes {k : DelayFlipFlop → Result} (hk : ∀ f, Completes (k f)) :
    Completes (onDelayFlipFlop j s k) ↔ decide (j.toNat < s.cfg.nDff) = true :=
  completes_iff_of_lookup (fun _ => onDelayFlipFlop_next) h.dffCount hk

theorem State.Inv.onWireAnd_completes {k : WireAnd → Result} (hk : ∀ w, Completes (k w)) :
    Completes (onWireAnd j s k) ↔ decide (j.toNat < s.cfg.nWand) = true :=
  completes_iff_of_lookup (fun _ => onWireAnd_next) h.wandCount hk

theorem State.Inv.execAndNotify_completes (kind : BitVec 5) (level : Bit) :
    Completes (execAndNotify j kind level s) ↔ decide (j.toNat < s.cfg.nAnd) = true := by
  rw [decide_eq_true_iff]
  by_cases hj : j.toNat < s.cfg.nAnd
  · obtain ⟨t, ht⟩ := h.andDeliver_ends hj kind level
    have hc := List.getElem?_eq_getElem (l := s.cfg.andCfg) hj
    have hp := List.getElem?_eq_getElem (l := s.andp) (h.andCount.symm ▸ hj)
    simp only [execAndNotify, hc, hp, ht]
    exact iff_of_true (completes_done t) hj
  · have habsent : s.andp.length ≤ j.toNat := by
      rw [h.andCount]
      exact Nat.le_of_not_lt hj
    rw [execAndNotify_absent habsent]
    exact iff_of_false (not_completes_refused _) hj

theorem State.Inv.execTick_completes : Completes (execTick s) := by
  obtain ⟨t, ht⟩ := h.tickPass_ends
  unfold execTick
  split
  · rw [ht]
    exact completes_done t
  · exact completes_done s

end

theorem completes_ite {p : Prop} [Decidable p] {x y : Result} (hx : Completes x) (hy : Completes y) :
    Completes (if p then x else y) := by
  split
  · exact hx
  · exact hy

theorem execStore_completes (addr : Addr) (v : Byte) (view : View) (aec : Bit) :
    Completes (execStore addr v view aec s) := by
  unfold execStore
  split
  · split
    · exact completes_done _
    · exact completes_done _
  · exact completes_done _

theorem execLoad_completes (addr : Addr) (view : View) (aec : Bit) : Completes (execLoad addr view aec s) := by
  unfold execLoad
  split
  · split
    all_goals exact completes_reply _ _
  · exact completes_done _

theorem execTodreg_completes (id : BitVec 8) :
    Completes (execTodreg id s) ↔ (s.cfg.targetList? id).isSome = true := by
  unfold execTodreg
  cases s.cfg.targetList? id with
  | some l => exact iff_of_true (completes_done _) rfl
  | none => exact iff_of_false (not_completes_refused _) (by decide)

theorem execSetvic_completes (id : BitVec 8) :
    Completes (execSetvic id s) ↔ (s.cfg.readTable? id).isSome = true := by
  unfold execSetvic
  cases s.cfg.readTable? id with
  | some t => exact iff_of_true (completes_done _) rfl
  | none => exact iff_of_false (not_completes_refused _) (by decide)

theorem execSetcolor_completes (id : BitVec 8) :
    Completes (execSetcolor id s) ↔ (s.cfg.colorRef? id).isSome = true := by
  unfold execSetcolor
  cases s.cfg.colorRef? id with
  | some c => exact iff_of_true (completes_done _) rfl
  | none => exact iff_of_false (not_completes_refused _) (by decide)

theorem execSetcpu_completes (r w : BitVec 8) : Completes (execSetcpu r w s) ↔
    ((s.cfg.readTable? r).isSome && (s.cfg.writeTable? w).isSome) = true := by
  unfold execSetcpu
  cases s.cfg.readTable? r with
  | none => exact iff_of_false (not_completes_refused _) (by simp)
  | some rd =>
    cases s.cfg.writeTable? w with
    | none => exact iff_of_false (not_completes_refused _) (by simp)
    | some wr => exact iff_of_true (completes_done _) rfl

/-- An operation that carries no caller completes exactly where the primitives and entries that it names exist. -/
theorem State.Inv.exec_completes_iff_wf (h : s.Inv) (hcaller : callerOf i = none) :
    Completes (exec i s) ↔ i.wf s.cfg = true := by
  cases i with
  | announce a => cases hcaller
  | wait a => cases hcaller
  | release => exact iff_of_true (completes_done _) rfl
  | allfin => exact iff_of_true (completes_reply _ _) rfl
  | start => exact iff_of_true (completes_done _) rfl
  | stop => exact iff_of_true (completes_done _) rfl
  | tick => exact iff_of_true h.execTick_completes rfl
  | setrate imm => exact iff_of_true (completes_done _) rfl
  | getrate => exact iff_of_true (completes_reply _ _) rfl
  | todreg id => exact execTodreg_completes id
  | store addr v view aec => exact iff_of_true (execStore_completes addr v view aec) rfl
  | load addr view aec => exact iff_of_true (execLoad_completes addr view aec) rfl
  | isinit => exact iff_of_true (completes_reply _ _) rfl
  | setcpu r w => exact execSetcpu_completes r w
  | setvic id => exact execSetvic_completes id
  | setcolor id => exact execSetcolor_completes id
  | ctrWlo j b => exact h.onCounter_completes fun _ => completes_done _
  | ctrWhi j b => exact h.onCounter_completes fun _ => completes_ite (completes_done _) (completes_done _)
  | ctrDec j on => exact h.onCounter_completes fun _ => completes_done _
  | ctrClk j => exact h.onCounter_completes fun _ => completes_ite (completes_done _) (completes_done _)
  | ctrZero j => exact h.onCounter_completes fun _ => completes_reply _ _
  | ctrRead j => exact h.onCounter_completes fun _ => completes_reply _ _
  | ffSet j => exact h.onFlipFlop_completes fun _ => completes_done _
  | ffRst j => exact h.onFlipFlop_completes fun _ => completes_done _
  | ffInv j => exact h.onFlipFlop_completes fun _ => completes_done _
  | ffGet j => exact h.onFlipFlop_completes fun _ => completes_reply _ _
  | dffSet j => exact h.onDelayFlipFlop_completes fun _ => completes_done _
  | dffRst j => exact h.onDelayFlipFlop_completes fun _ => completes_done _
  | dffInv j => exact h.onDelayFlipFlop_completes fun _ => completes_done _
  | dffClk j => exact h.onDelayFlipFlop_completes fun _ => completes_done _
  | dffGet j => exact h.onDelayFlipFlop_completes fun _ => completes_reply _ _
  | andNotify j kind level => exact h.execAndNotify_completes kind level
  | wandSet j line level => exact h.onWireAnd_completes fun _ => completes_done _
  | wandGet j => exact h.onWireAnd_completes fun _ => completes_reply _ _

/-- ANNOUNCE and WAIT pass the checks of R99 exactly for a caller that exists and is not blocked. -/
theorem exec_completes_of_caller {a : BitVec 8} (hi : i = .announce a ∨ i = .wait a) :
    Completes (exec i s) ↔ i.wf s.cfg = true ∧ a.toNat ∉ s.bar.blocked := by
  obtain rfl | rfl := hi
  · simp only [exec, execAnnounce, Instr.wf, decide_eq_true_iff]
    exact fromAgent_completes (completes_done _)
  · simp only [exec, execWait, Instr.wf, decide_eq_true_iff]
    exact fromAgent_completes (completes_done _)

/-- Only ANNOUNCE and WAIT carry their caller (40_barrier R124). -/
theorem callerOf_eq_some {a : BitVec 8} : callerOf i = some a ↔ i = .announce a ∨ i = .wait a := by
  cases i <;> simp [callerOf]

/-- Settles O9: an operation that carries its caller is checked by `fromAgent`; the others by what they look up, and the
deliveries they start end on a constructed block. -/
theorem completesExactlyWhenAdmitted : Obligations.CompletesExactlyWhenAdmitted := by
  intro i s h
  change Completes (exec i s) ↔ _
  simp only [← callerOf_eq_some]
  cases hcaller : callerOf i with
  | none => simp [h.exec_completes_iff_wf hcaller]
  | some a => simp [exec_completes_of_caller (callerOf_eq_some.mp hcaller)]

end Sys2Proof.Machine
end

section
/-! SUPPORT. The synchronization barrier: its four operations, what any operation does to the barrier, and what the port
does with the requests of blocked agents. -/

namespace Sys2Proof.Machine

variable {s t u : State} {i : Instr}

/-! ## An operation that carries its caller -/

theorem fromAgent_of_absent {a : BitVec 8} (ha : s.cfg.nAgents ≤ a.toNat) (k : State → Result) :
    fromAgent a s k = .refused .noSuchAgent := if_pos ha

theorem fromAgent_of_blocked {a : BitVec 8} (ha : a.toNat < s.cfg.nAgents) (hb : a.toNat ∈ s.bar.blocked)
    (k : State → Result) : fromAgent a s k = .refused .agentBlocked := by
  simp [fromAgent, Nat.not_le.mpr ha, hb]

theorem fromAgent_of_free {a : BitVec 8} (ha : a.toNat < s.cfg.nAgents) (hb : a.toNat ∉ s.bar.blocked)
    (k : State → Result) : fromAgent a s k = k s := by
  simp [fromAgent, Nat.not_le.mpr ha, hb]

/-! ## WAIT as a change of the barrier -/

/-- The barrier after a WAIT of agent `a` (40_barrier R121): truncated subtraction lowers `pending` only if it is
positive. -/
def waited (a : Nat) (b : Barrier) : Barrier :=
  { b with pending := b.pending - 1, blocked := insertAgent a b.blocked }

@[simp] theorem waited_expected (a : Nat) (b : Barrier) : (waited a b).expected = b.expected := rfl
@[simp] theorem waited_pending (a : Nat) (b : Barrier) : (waited a b).pending = b.pending - 1 := rfl

@[simp] theorem mem_waited_blocked {a c : Nat} {b : Barrier} : c ∈ (waited a b).blocked ↔ c = a ∨ c ∈ b.blocked :=
  mem_insertAgent

/-- WAIT's conditional decrement is truncated subtraction (40_barrier R121). -/
theorem wait_bar_eq_waited (a : Nat) (b : Barrier) :
    { b with pending := if 0 < b.pending then b.pending - 1 else b.pending, blocked := insertAgent a b.blocked } =
      waited a b := by
  have hpending : (if 0 < b.pending then b.pending - 1 else b.pending) = b.pending - 1 := by
    split <;> omega
  rw [hpending, waited]

/-! ## The four operations -/

theorem exec_announce (a : BitVec 8) (s : State) : exec (.announce a) s =
    fromAgent a s fun s => done (s.withBar { s.bar with expected := s.bar.expected + 1 }) := rfl

theorem exec_wait (a : BitVec 8) (s : State) : exec (.wait a) s =
    fromAgent a s fun s => done (s.withBar (waited a.toNat s.bar)) := by
  simp only [← wait_bar_eq_waited]
  rfl

/-- Settles O25: the effect behind the checks of `fromAgent` raises `bar.expected` alone. -/
theorem announceCountsOneMore : Obligations.AnnounceCountsOneMore := by
  intro a s
  rw [exec_announce]
  exact ⟨decode_eq_of_encode rfl, fun habsent => fromAgent_of_absent habsent _,
    fun ha hb => fromAgent_of_blocked ha hb _, fun ha hb => fromAgent_of_free ha hb _⟩

/-- Settles O26: the new set is the old one with the caller inserted. -/
theorem waitBlocksTheCaller : Obligations.WaitBlocksTheCaller := by
  intro a s
  rw [exec_wait]
  exact ⟨decode_eq_of_encode rfl, fun habsent => fromAgent_of_absent habsent _,
    fun ha hb => fromAgent_of_blocked ha hb _,
    fun ha hb => ⟨insertAgent a.toNat s.bar.blocked, fromAgent_of_free ha hb _, fun _ => mem_insertAgent⟩⟩

/-- The response of a status predicate that is a decision (30_encoding R103). -/
theorem respBit_decide (p : Prop) [Decidable p] : respBit (decide p) = if p then 1#16 else 0#16 := by
  by_cases hp : p <;> simp [respBit, hp]

/-- Settles O27: RELEASE replaces the barrier by the released one; ALLFIN answers `allFinished` and writes nothing. -/
theorem releaseWakesAllAndAllfinReports : Obligations.ReleaseWakesAllAndAllfinReports := by
  intro s
  refine ⟨decode_eq_of_encode (by decide), decode_eq_of_encode (by decide), rfl, ?allfin⟩
  case allfin =>
    rw [← respBit_decide]
    rfl

/-! ## What any operation does to the barrier -/

/-- An operation keeps the barrier, counts one more waiter, lets its caller wait, or releases (40_barrier R120 to R122,
41_clock R142). -/
theorem Effect.bar_cases (he : Effect s i u) :
    u.bar = s.bar ∨
    (∃ a, i = .announce a ∧ u.bar = { s.bar with expected := s.bar.expected + 1 }) ∨
    (∃ a, i = .wait a ∧ u.bar = waited a.toNat s.bar) ∨
    (isWake i = true ∧ u.bar = released s.bar) := by
  cases he with
  | announce a => exact .inr (.inl ⟨a, rfl, rfl⟩)
  | wait a => exact .inr (.inr (.inl ⟨a, rfl, wait_bar_eq_waited a.toNat s.bar⟩))
  | release => exact .inr (.inr (.inr ⟨rfl, rfl⟩))
  | tick hu => exact .inr (.inr (.inr ⟨rfl, (tickPass_delivers hu).bar⟩))
  | andNotify hu => exact .inl (andDeliver_delivers hu).bar
  | _ => exact .inl rfl

/-- Settles O20: only a WAIT adds to the set, its caller; only a release removes from it, everyone. -/
theorem onlyWaitSuspendsOnlyReleaseWakes : Obligations.OnlyWaitSuspendsOnlyReleaseWakes := by
  intro i s t h
  obtain ⟨u, r, he, rfl⟩ := exec_performs h
  simp only [State.answered_bar]
  obtain hbar | ⟨a, -, hbar⟩ | ⟨a, hi, hbar⟩ | ⟨hwake, hbar⟩ := he.bar_cases <;> rw [hbar]
  case inl | inr.inl => exact ⟨fun b hb hnot => absurd hb hnot, fun b hb hnot => absurd hb hnot⟩
  case inr.inr.inl =>
    refine ⟨fun b hb hnot => ?_, fun b hb hnot => ?_⟩
    · exact ⟨a, hi, (mem_waited_blocked.mp hb).resolve_right hnot⟩
    · exact absurd (mem_waited_blocked.mpr (.inr hb)) hnot
  case inr.inr.inr =>
    exact ⟨fun b hb => absurd hb List.not_mem_nil, fun _ _ _ => ⟨hwake, rfl⟩⟩

/-! ## `bar.pending` -/

/-- Every effect keeps `bar.pending` within `bar.expected`: none lowers the bound, and a release fills up to it. -/
theorem Effect.pending_le (he : Effect s i u) (h : s.bar.pending ≤ s.bar.expected) :
    u.bar.pending ≤ u.bar.expected := by
  obtain hbar | ⟨a, -, hbar⟩ | ⟨a, -, hbar⟩ | ⟨-, hbar⟩ := he.bar_cases <;> rw [hbar]
  · exact h
  · exact Nat.le_succ_of_le h
  · exact (Nat.sub_le _ _).trans h
  · exact Nat.le_refl _

theorem exec_wait_of_free {a : BitVec 8} (ha : a.toNat < s.cfg.nAgents) (hb : a.toNat ∉ s.bar.blocked) :
    ∃ t, exec (.wait a) s = .next t ∧ t.cfg = s.cfg ∧ t.bar = waited a.toNat s.bar :=
  ⟨_, (exec_wait a s).trans (fromAgent_of_free ha hb _), rfl, rfl⟩

/-- Waits of distinct free agents all complete; each lowers `bar.pending` once and blocks its caller. -/
theorem execAll_waits : ∀ {callers : List (BitVec 8)} {s : State}, callers.Nodup →
    (∀ a ∈ callers, a.toNat < s.cfg.nAgents) → (∀ a ∈ callers, a.toNat ∉ s.bar.blocked) →
    ∃ t, execAll (callers.map .wait) s = .next t ∧ t.bar.pending = s.bar.pending - callers.length ∧
      t.bar.expected = s.bar.expected ∧ ∀ b, b ∈ t.bar.blocked ↔ (∃ a ∈ callers, b = a.toNat) ∨ b ∈ s.bar.blocked
  | [], s, _, _, _ => ⟨s, rfl, rfl, rfl, by simp⟩
  | a :: callers, s, hnodup, hagents, hfree => by
    obtain ⟨ha, hnodup⟩ := List.nodup_cons.mp hnodup
    obtain ⟨haAgent, hagents⟩ := List.forall_mem_cons.mp hagents
    obtain ⟨haFree, hfree⟩ := List.forall_mem_cons.mp hfree
    obtain ⟨v, hwait, hcfg, hbar⟩ := exec_wait_of_free haAgent haFree
    have hstillFree : ∀ c ∈ callers, c.toNat ∉ v.bar.blocked := by
      intro c hc hblocked
      rw [hbar, mem_waited_blocked] at hblocked
      obtain heq | hold := hblocked
      · exact ha (BitVec.eq_of_toNat_eq heq ▸ hc)
      · exact hfree c hc hold
    obtain ⟨t, hrun, hpending, hexpected, hblocked⟩ := execAll_waits hnodup (hcfg ▸ hagents) hstillFree
    simp only [hbar, waited_pending, waited_expected, mem_waited_blocked] at hpending hexpected hblocked
    refine ⟨t, ?run, ?pending, hexpected, fun b => ?blocked⟩
    case run => simp only [List.map_cons, execAll, hwait, hrun]
    case pending =>
      rw [hpending, List.length_cons]
      omega
    case blocked =>
      rw [hblocked, List.exists_mem_cons_iff]
      exact or_left_comm.trans or_assoc.symm

/-- Settles O16: every effect keeps the bound; the release leaves no agent blocked, so that every wait completes. -/
theorem pendingCountsTheWaits : Obligations.PendingCountsTheWaits := by
  refine ⟨fun s t hle h => ?step, fun s callers hnodup hagents => ?waits⟩
  case step =>
    obtain rfl | ⟨r, rest, i, u, _, he, rfl⟩ := step_performs h
    · exact hle
    · exact he.pending_le hle
  case waits =>
    obtain ⟨t, hrun, hpending, hexpected, hblocked⟩ :=
      execAll_waits (s := (s.withBar (released s.bar)).answered none) hnodup hagents fun _ _ => List.not_mem_nil
    have hnone : ∀ b, b ∉ ((s.withBar (released s.bar)).answered none).bar.blocked := fun _ => List.not_mem_nil
    exact ⟨t, hrun, hpending, hexpected, fun b => (hblocked b).trans (or_iff_left (hnone b))⟩

/-! ## The requests of blocked agents -/

/-- The words that carry a caller are those of ANNOUNCE and WAIT (40_barrier R124). -/
theorem namesCaller_iff {w : ReqWord} :
    namesCaller w = true ↔ ∃ a, decode w = .ok (.announce a) ∨ decode w = .ok (.wait a) := by
  unfold namesCaller
  cases decode w with
  | error e => simp
  | ok i => simp [Option.isSome_iff_exists, callerOf_eq_some]

theorem namesCaller_eq_false {w : ReqWord} :
    namesCaller w = false ↔ ∀ a, decode w ≠ .ok (.announce a) ∧ decode w ≠ .ok (.wait a) := by
  rw [Bool.eq_false_iff, ne_eq, namesCaller_iff]
  simp

/-- A request is held exactly where a blocked agent presents it and it is no ANNOUNCE and no WAIT (log 5). -/
theorem takesUp_eq_false_iff {blocked : List Nat} {q : Request} :
    takesUp blocked q = false ↔ (∃ b ∈ blocked, q.issuer = .chip b) ∧
      ∀ a, decode q.word ≠ .ok (.announce a) ∧ decode q.word ≠ .ok (.wait a) := by
  rw [takesUp_false, mayStep_false, namesCaller_eq_false]

/-- The range check of the agent comes before the refusal as blocked (60_exceptions R248). -/
theorem refuseBlocked_of_caller {a : BitVec 8} (h : callerOf i = some a) (s : State) :
    refuseBlocked i s = .refused (if s.cfg.nAgents ≤ a.toNat then .noSuchAgent else .agentBlocked) := by
  simp only [refuseBlocked, h]
  split <;> rfl

/-- The next request of an agent that may not step is refused (30_encoding R99). -/
theorem step_of_blocked {r : Request} {rest : List Request}
    (hnext : nextRequest s.bar.blocked s.port.requests = some (r, rest)) (hd : decode r.word = .ok i)
    (hmay : mayStep s.bar.blocked r.issuer = false) : step s = refuseBlocked i s := by
  simp only [step, hnext, hd, hmay, Bool.false_eq_true, if_false]

/-- A step in which the port takes up no request changes nothing. -/
theorem step_of_idle (h : nextRequest s.bar.blocked s.port.requests = none) : step s = .next s := by
  simp only [step, h]

/-- Settles O8: of a blocked agent the port takes up only what carries a caller, and that is refused; what it passes over
is held. -/
theorem blockedAgentHasNoStep : Obligations.BlockedAgentHasNoStep := by
  refine ⟨fun s r rest b hnext hissuer hb => ?refused, fun s r rest hnext => ?passedOver, fun s hheld => ?idle⟩
  case refused =>
    have hmay : mayStep s.bar.blocked r.issuer = false := mayStep_false.mpr ⟨b, hb, hissuer⟩
    obtain ⟨htaken, -⟩ := nextRequest_some hnext
    have hcaller : namesCaller r.word = true := by simpa [takesUp, hmay] using htaken
    obtain ⟨a, hd⟩ := namesCaller_iff.mp hcaller
    refine ⟨a, hd, ?_⟩
    obtain hd | hd := hd <;> rw [step_of_blocked hnext hd hmay, refuseBlocked_of_caller rfl]
  case passedOver =>
    obtain ⟨-, held, after, hrequests, hrest, hheld⟩ := nextRequest_some hnext
    exact ⟨held, after, hrequests, hrest, fun q hq => takesUp_eq_false_iff.mp (hheld q hq)⟩
  case idle =>
    exact step_of_idle (nextRequest_none.mpr fun q hq => takesUp_eq_false_iff.mpr (hheld q hq))

end Sys2Proof.Machine
end

section
/-! SUPPORT. The clock: its operations, and a pass of its loop as the release and the countdown followed by the rounds of
the edges that are due. -/

namespace Sys2Proof.Machine

variable {s t u : State} {i : Instr}

/-! ## START, STOP, the rate and the targets -/

/-- Settles O28: both replace `clk.running` alone. -/
theorem startAndStopToggleRunning : Obligations.StartAndStopToggleRunning := by
  intro s
  exact ⟨decode_eq_of_encode (by decide), decode_eq_of_encode (by decide), rfl, rfl⟩

theorem rateOf_of_neg {imm : Word16} (h : imm.toInt < 0) : rateOf imm = 0x0100#16 := if_pos h

theorem rateOf_of_nonneg {imm : Word16} (h : 0 ≤ imm.toInt) : rateOf imm = imm := if_neg (Int.not_lt.mpr h)

theorem exec_setrate (imm : Word16) (s : State) :
    exec (.setrate imm) s = done (s.withClk { s.clk with rate := rateOf imm }) := rfl

/-- Settles O36: SETRATE stores `rateOf` of its operand, by the operand's sign; GETRATE answers the stored image. -/
theorem rateIsStoredAndRead : Obligations.RateIsStoredAndRead := by
  intro imm s
  refine ⟨decode_eq_of_encode rfl, decode_eq_of_encode (by decide), fun hneg => ?negative, fun hnonneg => ?other, rfl⟩
  case negative =>
    rw [exec_setrate, rateOf_of_neg hneg]
    rfl
  case other =>
    rw [exec_setrate, rateOf_of_nonneg hnonneg]
    rfl

theorem execTodreg_of_absent {id : BitVec 8} (h : s.cfg.targetList? id = none) :
    execTodreg id s = .refused .noSuchBankEntry := by
  simp only [execTodreg, h]

theorem execTodreg_of_entry {id : BitVec 8} {l : List Receiver} (h : s.cfg.targetList? id = some l) :
    execTodreg id s = done (s.withClk { s.clk with targets := l }) := by
  simp only [execTodreg, h]

/-- Settles O37: TODREG looks its id up in `TARGET_BANK` and replaces the whole list by what it finds. -/
theorem todregReplacesTheTargets : Obligations.TodregReplacesTheTargets := by
  intro id s
  exact ⟨decode_eq_of_encode rfl, fun habsent => execTodreg_of_absent habsent, fun l hl => execTodreg_of_entry hl⟩

/-! ## When TICK is enabled -/

theorem tickEnabled_iff {c : Config} {k : Clock} {b : Barrier} :
    tickEnabled c k b = true ↔ k.running = true ∧ (c.lockstep = .bestEffort ∨ b.pending = 0) := by
  simp [tickEnabled, allFinished]

theorem exec_tick_of_disabled (h : tickEnabled s.cfg s.clk s.bar = false) : exec .tick s = done s := by
  simp [exec, execTick, h]

theorem exec_tick_of_pass (h : tickEnabled s.cfg s.clk s.bar = true) (hu : tickPass s = some u) :
    exec .tick s = done u := by
  simp [exec, execTick, h, hu]

/-- Settles O29: in both cases TICK is not enabled. -/
theorem tickIdlesWhenNotEnabled : Obligations.TickIdlesWhenNotEnabled := by
  intro s hidle
  have hdisabled : tickEnabled s.cfg s.clk s.bar = false := by
    rw [Bool.eq_false_iff, ne_eq, tickEnabled_iff]
    rintro ⟨hrunning, hfree⟩
    obtain hstopped | ⟨hstrict, hpending⟩ := hidle
    · simp [hstopped] at hrunning
    · obtain hbest | hnone := hfree
      · simp [hstrict] at hbest
      · omega
  exact exec_tick_of_disabled hdisabled

/-! ## One enabled pass -/

/-- The state of an enabled pass after the release and the countdown, before any round (41_clock R142). -/
def State.counted (s : State) : State :=
  (s.withBar (released s.bar)).withClk { s.clk with tod := nextTod s.cfg.todReload s.clk.tod }

/-- The round of the TOD kind over `rs`, where its edge is due. -/
def roundIf (due : Prop) [Decidable due] (level : Bit) (rs : List Receiver) (s : State) : Option State :=
  if due then notifyAll .tod level rs s else some s

theorem roundIf_of_due {due : Prop} [Decidable due] (h : due) (level : Bit) (rs : List Receiver) (s : State) :
    roundIf due level rs s = notifyAll .tod level rs s := if_pos h

theorem roundIf_of_not_due {due : Prop} [Decidable due] (h : ¬due) (level : Bit) (rs : List Receiver) (s : State) :
    roundIf due level rs s = some s := if_neg h

theorem roundIf_delivers {due : Prop} [Decidable due] {level : Bit} {rs : List Receiver}
    (h : roundIf due level rs s = some t) : Delivers s t := by
  unfold roundIf at h
  split at h
  · exact notifyAll_delivers h
  · cases h
    exact Delivers.refl _

/-- A pass is the rising round, if due, and then the falling round, if due: the rising round changes neither the
countdown nor the targets, so what is due is known before it (41_clock R142). -/
theorem tickPass_eq_rounds (s : State) : tickPass s =
    (roundIf (s.clk.tod - 1 = 0) true s.clk.targets s.counted).bind
      (roundIf (nextTod s.cfg.todReload s.clk.tod = s.cfg.todReload / 2) false s.clk.targets) := by
  refine Option.bind_congr fun u hu => ?_
  have hd := roundIf_delivers hu
  rw [hd.clk, hd.cfg]
  rfl

theorem nextTod_at_rise {reload tod : Nat} (h : tod - 1 = 0) : nextTod reload tod = reload := if_pos h

theorem nextTod_above_rise {reload tod : Nat} (h : tod - 1 ≠ 0) : nextTod reload tod = tod - 1 := if_neg h

/-- The two edges are never due together: the countdown is reloaded above its midpoint (00_scope R9). -/
theorem not_fall_of_rise {reload tod : Nat} (hreload : 2 ≤ reload) (h : tod - 1 = 0) :
    nextTod reload tod ≠ reload / 2 := by
  rw [nextTod_at_rise h]
  omega

theorem tickPass_at_rise (hreload : 2 ≤ s.cfg.todReload) (h : s.clk.tod - 1 = 0) :
    tickPass s = notifyAll .tod true s.clk.targets s.counted := by
  rw [tickPass_eq_rounds, roundIf_of_due h]
  exact (Option.bind_congr fun u _ => roundIf_of_not_due (not_fall_of_rise hreload h) _ _ u).trans
    (Option.bind_fun_some _)

theorem tickPass_at_fall (hreload : 2 ≤ s.cfg.todReload)
    (h : nextTod s.cfg.todReload s.clk.tod = s.cfg.todReload / 2) :
    tickPass s = notifyAll .tod false s.clk.targets s.counted := by
  have hnot : ¬s.clk.tod - 1 = 0 := fun hrise => not_fall_of_rise hreload hrise h
  rw [tickPass_eq_rounds, roundIf_of_not_due hnot, Option.bind_some, roundIf_of_due h]

theorem tickPass_off_edges (hrise : s.clk.tod - 1 ≠ 0)
    (hfall : nextTod s.cfg.todReload s.clk.tod ≠ s.cfg.todReload / 2) : tickPass s = some s.counted := by
  rw [tickPass_eq_rounds, roundIf_of_not_due hrise, Option.bind_some, roundIf_of_not_due hfall]

theorem Delivers.port (h : Delivers s t) : t.port = s.port := by rw [h.rest]

/-- Settles O31: a pass ends on a constructed block; what it delivers is the one round that is due, or none. -/
theorem enabledTickFrame : Obligations.EnabledTickFrame := by
  intro s hs henabled tod' v
  obtain ⟨-, -, ⟨hreload, -⟩, -⟩ := Config.wf_iff.mp hs.cfgWf
  obtain ⟨t, ht⟩ := hs.tickPass_ends
  have hd : Delivers s.counted t := tickPass_delivers ht
  refine ⟨t, ?exec, hd.rest, hd.fault, fun hrise => ?rise, fun hfall => ?fall, fun hrise hfall => ?off⟩
  case exec =>
    have hport : s.port = t.port := hd.port.symm
    rw [hport]
    exact exec_tick_of_pass henabled ht
  case rise => exact (tickPass_at_rise hreload hrise).symm.trans ht
  case fall => exact (tickPass_at_fall hreload hfall).symm.trans ht
  case off => exact Option.some.inj (ht.symm.trans (tickPass_off_edges hrise hfall))

/-! ## An AndPort as the target -/

theorem notifyAll_singleton (kind : SignalKind) (level : Bit) (r : Receiver) (s : State) :
    notifyAll kind level [r] s = notify s r kind level := Option.bind_fun_some _

theorem State.Inv.counted (h : s.Inv) : s.counted.Inv := by
  obtain ⟨-, -, ⟨hreload, -⟩, -⟩ := Config.wf_iff.mp h.cfgWf
  exact h.released.withTod (nextTod_range (Nat.le_of_succ_le hreload) h.todLe)

/-- On a constructed block, AND.NOTIFY of an AndPort is its delivery, answered with nothing (43_logic_primitives R195). -/
theorem State.Inv.exec_andNotify (h : s.Inv) {j : BitVec 8} (hj : j.toNat < s.cfg.nAnd) (kind : BitVec 5)
    (level : Bit) : ∃ u, andDeliver s.cfg.nAnd s j.toNat kind level = some u ∧
      exec (.andNotify j kind level) s = done u := by
  obtain ⟨t, ht⟩ := (h.execAndNotify_completes kind level).mpr (decide_eq_true hj)
  obtain ⟨u, hu, rfl⟩ := execAndNotify_next ht
  exact ⟨u, hu, ht⟩

/-- A pass that is one round over a single AndPort is that AndPort's AND.NOTIFY. -/
theorem exec_tick_eq_andNotify (h : s.Inv) {j : BitVec 8} {level : Bit}
    (henabled : tickEnabled s.cfg s.clk s.bar = true) (htargets : s.clk.targets = [.andPort j.toNat])
    (hpass : tickPass s = notifyAll .tod level s.clk.targets s.counted) :
    exec .tick s = exec (.andNotify j (kindCode .tod) level) s.counted := by
  have hj : j.toNat < s.cfg.nAnd := of_decide_eq_true (h.targetsExist (.andPort j.toNat) (by simp [htargets]))
  obtain ⟨u, hu, hexec⟩ := h.counted.exec_andNotify hj (kindCode .tod) level
  rw [hexec]
  refine exec_tick_of_pass henabled ?_
  rw [hpass, htargets, notifyAll_singleton]
  exact hu

/-- Settles O32: at either edge the pass is one round, here over the AndPort alone. -/
theorem enabledTickNotifiesAnAndPort : Obligations.EnabledTickNotifiesAnAndPort := by
  intro s j hs henabled htargets v
  obtain ⟨-, -, ⟨hreload, -⟩, -⟩ := Config.wf_iff.mp hs.cfgWf
  refine ⟨fun htod => ?rise, fun htod => ?fall⟩
  case rise =>
    have hrise : s.clk.tod - 1 = 0 := by omega
    rw [exec_tick_eq_andNotify hs henabled htargets (tickPass_at_rise hreload hrise), State.counted,
      nextTod_at_rise hrise]
    rfl
  case fall =>
    have hfall : nextTod s.cfg.todReload s.clk.tod = s.cfg.todReload / 2 := by
      rw [nextTod_above_rise (by omega)]
      omega
    rw [exec_tick_eq_andNotify hs henabled htargets (tickPass_at_fall hreload hfall), State.counted, hfall]
    rfl

/-! ## External targets -/

/-- The state with the notifications `ns` sent, in order (10_state R41). -/
def State.sent (s : State) (ns : List Notification) : State :=
  s.withOut { s.out with notify := s.out.notify ++ ns }

@[simp] theorem State.sent_nil (s : State) : s.sent [] = s := by simp [State.sent, State.withOut]

@[simp] theorem State.sent_sent (s : State) (ms ns : List Notification) :
    (s.sent ms).sent ns = s.sent (ms ++ ns) := by
  simp [State.sent, State.withOut]

/-- What a round of the TOD kind sends to external receivers. -/
def todRound (es : List Nat) (level : Bit) : List Notification := es.map fun e => ⟨e, .tod, level⟩

/-- A round over external receivers ends and sends to each, first to last (44_signals R222). -/
theorem notifyAll_ext (level : Bit) : ∀ (es : List Nat) (s : State),
    notifyAll .tod level (es.map .ext) s = some (s.sent (todRound es level))
  | [], s => by simp [notifyAll, todRound]
  | e :: es, s => by
    calc notifyAll .tod level ((e :: es).map .ext) s
      _ = notifyAll .tod level (es.map .ext) (s.sent [⟨e, .tod, level⟩]) := rfl
      _ = some ((s.sent [⟨e, .tod, level⟩]).sent (todRound es level)) := notifyAll_ext level es _
      _ = some (s.sent (todRound (e :: es) level)) := by rw [State.sent_sent]; rfl

theorem roundIf_ext (due : Prop) [Decidable due] (level : Bit) (es : List Nat) (s : State) :
    roundIf due level (es.map .ext) s = some (s.sent (if due then todRound es level else [])) := by
  unfold roundIf
  split
  · exact notifyAll_ext level es s
  · rw [State.sent_nil]

/-- What an enabled TICK at countdown `tod` sends to the external targets `es` (41_clock R142). -/
def tickSends (es : List Nat) (reload tod : Nat) : List Notification :=
  (if tod - 1 = 0 then todRound es true else []) ++
    (if nextTod reload tod = reload / 2 then todRound es false else [])

theorem tickPass_ext {es : List Nat} (h : s.clk.targets = es.map .ext) :
    tickPass s = some (s.counted.sent (tickSends es s.cfg.todReload s.clk.tod)) := by
  rw [tickPass_eq_rounds, h, roundIf_ext, Option.bind_some, roundIf_ext, State.sent_sent]
  rfl

/-- Settles O30: every round over external receivers ends, so the pass is the countdown and what the two rounds send. -/
theorem enabledTickNotifiesTheTargets : Obligations.EnabledTickNotifiesTheTargets := by
  intro s es hrunning hfree _ htargets tod'
  rw [exec_tick_of_pass (tickEnabled_iff.mpr ⟨hrunning, hfree⟩) (tickPass_ext htargets)]
  simp only [List.append_assoc]
  rfl

end Sys2Proof.Machine
end

section
/-! SUPPORT. The clock over a run of operations: the countdown, the edges sent to external targets, and the waits before
a strict TICK, each from what one operation does. -/

namespace Sys2Proof.Machine

variable {s t u : State} {i : Instr} {is : List Instr}

/-! ## Runs, one operation at a time -/

/-- A run that completes performs its first operation and then the others. -/
theorem execAll_cons_next : execAll (i :: is) s = .next t ↔ ∃ u, exec i s = .next u ∧ execAll is u = .next t := by
  rw [execAll]
  cases exec i s <;> simp

/-- How many enabled TICKs the operation is: one or none. -/
def tickCount (i : Instr) (s : State) : Nat := if i = .tick ∧ tickEnabled s.cfg s.clk s.bar = true then 1 else 0

theorem enabledTicks_cons (h : exec i s = .next u) : enabledTicks (i :: is) s = tickCount i s + enabledTicks is u := by
  simp only [enabledTicks, h, tickCount]

theorem tickCount_cases (i : Instr) (s : State) : tickCount i s = 0 ∨ tickCount i s = 1 := by
  unfold tickCount
  split
  · exact .inr rfl
  · exact .inl rfl

/-- An operation that completes is an enabled TICK, by its pass, or has an effect, which for an idle TICK is none. -/
theorem exec_pass_or_effect (h : exec i s = .next t) :
    (tickCount i s = 1 ∧ ∃ u, tickPass s = some u ∧ t = u.answered none) ∨
    (tickCount i s = 0 ∧ ∃ u r, Effect s i u ∧ t = u.answered r ∧ (i = .tick → u = s)) := by
  by_cases hi : i = .tick
  case pos =>
    subst hi
    obtain ⟨hdisabled, rfl⟩ | ⟨henabled, u, hu, rfl⟩ := execTick_next h
    · exact .inr ⟨by simp [tickCount, hdisabled], s, none, .quiet _, rfl, fun _ => rfl⟩
    · exact .inl ⟨if_pos ⟨rfl, henabled⟩, u, hu, rfl⟩
  case neg =>
    obtain ⟨u, r, he, rfl⟩ := exec_performs h
    exact .inr ⟨if_neg fun hcount => hi hcount.1, u, r, he, rfl, fun htick => absurd htick hi⟩

theorem exec_keeps_cfg (h : exec i s = .next t) : t.cfg = s.cfg := by
  obtain ⟨u, r, he, rfl⟩ := exec_performs h
  exact he.keeps_params.1

/-! ## The countdown -/

/-- One countdown advances the count of the period by one (41_clock R143). -/
theorem nextTod_phase {reload : Nat} (hreload : 1 ≤ reload) (n : Nat) :
    nextTod reload (reload - n % reload) = reload - (n + 1) % reload := by
  have hlt := Nat.mod_lt n hreload
  rw [← Nat.mod_add_mod n]
  by_cases hwrap : n % reload + 1 = reload
  · rw [nextTod_at_rise (by omega), hwrap, Nat.mod_self, Nat.sub_zero]
  · have hstep : n % reload + 1 < reload := by omega
    rw [nextTod_above_rise (by omega), Nat.mod_eq_of_lt hstep]
    omega

/-- An operation steps the countdown exactly where it is an enabled TICK. -/
theorem exec_tod (h : exec i s = .next t) :
    t.clk.tod = if tickCount i s = 1 then nextTod s.cfg.todReload s.clk.tod else s.clk.tod := by
  obtain ⟨hcount, u, hu, rfl⟩ | ⟨hcount, u, r, he, rfl, hidle⟩ := exec_pass_or_effect h
  · rw [hcount, if_pos rfl]
    exact congrArg Clock.tod (tickPass_delivers hu).clk
  · rw [hcount, if_neg Nat.zero_ne_one, State.answered_clk]
    obtain hkept | hi := he.keeps_tod
    · exact hkept
    · rw [hidle hi]

/-- The block has counted `n` enabled TICKs from a full countdown, up to whole periods. -/
def State.AtPhase (s : State) (n : Nat) : Prop := s.clk.tod = s.cfg.todReload - n % s.cfg.todReload

/-- One operation advances the phase by one where it is an enabled TICK. -/
theorem State.AtPhase.of_exec {n : Nat} (hn : s.AtPhase n) (hreload : 1 ≤ s.cfg.todReload) (h : exec i s = .next t) :
    t.AtPhase (n + tickCount i s) := by
  rw [State.AtPhase, exec_keeps_cfg h, exec_tod h, hn]
  obtain hcount | hcount := tickCount_cases i s <;> rw [hcount]
  · rfl
  · exact nextTod_phase hreload n

/-- A run advances the phase by its enabled TICKs. -/
theorem State.AtPhase.of_execAll : ∀ {is : List Instr} {s : State} {n : Nat}, s.AtPhase n → 1 ≤ s.cfg.todReload →
    execAll is s = .next t → t.cfg = s.cfg ∧ t.AtPhase (n + enabledTicks is s)
  | [], s, n, hn, _, h => by
    cases h
    exact ⟨rfl, hn⟩
  | i :: is, s, n, hn, hreload, h => by
    obtain ⟨u, hu, ht⟩ := execAll_cons_next.mp h
    have hcfg := exec_keeps_cfg hu
    obtain ⟨hcfg', hphase⟩ := (hn.of_exec hreload hu).of_execAll (hcfg ▸ hreload) ht
    rw [Nat.add_assoc, ← enabledTicks_cons hu] at hphase
    exact ⟨hcfg'.trans hcfg, hphase⟩

/-- A countdown in range has counted what is missing from a full one. -/
theorem State.atPhase_of_range (hpos : 1 ≤ s.clk.tod) (hle : s.clk.tod ≤ s.cfg.todReload) :
    s.AtPhase (s.cfg.todReload - s.clk.tod) := by
  rw [State.AtPhase, Nat.mod_eq_of_lt (by omega)]
  omega

/-- Settles O33: each operation advances the phase by its enabled TICKs. -/
theorem countdownClosedForm : Obligations.CountdownClosedForm := by
  intro is s t hpos hle h
  obtain ⟨hcfg, hphase⟩ := (State.atPhase_of_range hpos hle).of_execAll (hpos.trans hle) h
  rw [State.AtPhase, hcfg] at hphase
  exact hphase

/-! ## The edges sent -/

/-- Every effect but TODREG's keeps the targets (10_state R30). -/
theorem Effect.keeps_targets (he : Effect s i u) : u.clk.targets = s.clk.targets ∨ ∃ id, i = .todreg id := by
  cases he with
  | targets => exact .inr ⟨_, rfl⟩
  | tick hu =>
    have htargets := congrArg Clock.targets (tickPass_delivers hu).clk
    exact .inl htargets
  | andNotify hu => exact .inl (congrArg Clock.targets (andDeliver_delivers hu).clk)
  | _ => exact .inl rfl

/-- Every effect but TICK's and AND.NOTIFY's sends nothing (44_signals R228). -/
theorem Effect.keeps_notify (he : Effect s i u) :
    u.out.notify = s.out.notify ∨ i = .tick ∨ ∃ p k l, i = .andNotify p k l := by
  cases he with
  | tick => exact .inr (.inl rfl)
  | andNotify => exact .inr (.inr ⟨_, _, _, rfl⟩)
  | _ => exact .inl rfl

/-- The operation neither registers targets nor notifies an AndPort. -/
def LeavesReceivers (i : Instr) : Prop := (∀ id, i ≠ .todreg id) ∧ ∀ p k l, i ≠ .andNotify p k l

theorem exec_keeps_targets (hi : LeavesReceivers i) (h : exec i s = .next t) : t.clk.targets = s.clk.targets := by
  obtain ⟨u, r, he, rfl⟩ := exec_performs h
  refine he.keeps_targets.resolve_right ?_
  rintro ⟨id, rfl⟩
  exact hi.1 id rfl

/-- What an operation that leaves the receivers alone sends to the external targets `es`: the edges of an enabled TICK,
or nothing. -/
def opSends (es : List Nat) (i : Instr) (s : State) : List Notification :=
  if tickCount i s = 1 then tickSends es s.cfg.todReload s.clk.tod else []

theorem opSends_of_pass {es : List Nat} (h : tickCount i s = 1) :
    opSends es i s = tickSends es s.cfg.todReload s.clk.tod := if_pos h

theorem opSends_of_none {es : List Nat} (h : tickCount i s = 0) : opSends es i s = [] :=
  if_neg (h ▸ Nat.zero_ne_one)

theorem exec_sends {es : List Nat} (hes : s.clk.targets = es.map .ext) (hi : LeavesReceivers i)
    (h : exec i s = .next t) : t.out.notify = s.out.notify ++ opSends es i s := by
  obtain ⟨hcount, u, hu, rfl⟩ | ⟨hcount, u, r, he, rfl, hidle⟩ := exec_pass_or_effect h
  · rw [tickPass_ext hes] at hu
    cases hu
    rw [opSends_of_pass hcount]
    rfl
  · rw [opSends_of_none hcount, List.append_nil, State.answered_out]
    obtain hkept | htick | ⟨p, k, l, rfl⟩ := he.keeps_notify
    · exact hkept
    · rw [hidle htick]
    · exact absurd rfl (hi.2 p k l)

/-- What is added to the number of TICKs before dividing by the period: falling edges come half a period before the
rising ones (41_clock R143). -/
def edgeLead (reload : Nat) : Bit → Nat
  | true => 0
  | false => reload / 2

theorem edgeLead_rising (reload : Nat) : edgeLead reload true = 0 := rfl
theorem edgeLead_falling (reload : Nat) : edgeLead reload false = reload / 2 := rfl

theorem count_todRound (es : List Nat) (level level' : Bit) (e : Nat) :
    (todRound es level').count ⟨e, .tod, level⟩ = if level = level' then es.count e else 0 := by
  have hinj : Function.Injective fun e => Notification.mk e .tod level' :=
    fun _ _ heq => congrArg Notification.receiver heq
  split
  case isTrue h =>
    subst h
    exact List.count_map_of_injective es _ hinj e
  case isFalse h =>
    refine List.count_eq_zero.mpr fun hmem => ?_
    obtain ⟨_, -, heq⟩ := List.mem_map.mp hmem
    exact h (congrArg Notification.level heq).symm

theorem count_ite_todRound (due : Prop) [Decidable due] (es : List Nat) (level level' : Bit) (e : Nat) :
    (if due then todRound es level' else []).count ⟨e, .tod, level⟩ =
      if due ∧ level = level' then es.count e else 0 := by
  by_cases h : due <;> simp [h, count_todRound]

/-- The midpoint is half a period from the next multiple of it. -/
theorem mod_eq_half_iff {reload : Nat} (hreload : 2 ≤ reload) (heven : reload % 2 = 0) (n : Nat) :
    n % reload = reload / 2 ↔ reload ∣ n + reload / 2 := by
  have hlt := Nat.mod_lt n (Nat.zero_lt_of_lt hreload)
  have hhalf : reload / 2 < reload := by omega
  rw [Nat.dvd_iff_mod_eq_zero, Nat.add_mod_eq_ite, Nat.mod_eq_of_lt hhalf]
  split <;> omega

/-- The enabled TICK that makes the count `n + 1` sends each target the edges whose lead completes a period. -/
theorem count_tickSends (es : List Nat) {reload : Nat} (hreload : 2 ≤ reload) (heven : reload % 2 = 0) (n : Nat)
    (level : Bit) (e : Nat) : (tickSends es reload (reload - n % reload)).count ⟨e, .tod, level⟩ =
      if reload ∣ n + edgeLead reload level + 1 then es.count e else 0 := by
  have hlt := Nat.mod_lt n (Nat.zero_lt_of_lt hreload)
  have hlt' := Nat.mod_lt (n + 1) (Nat.zero_lt_of_lt hreload)
  have hrise : reload - n % reload - 1 = 0 ↔ reload ∣ n + 1 := by
    have hone : 1 < reload := hreload
    rw [Nat.dvd_iff_mod_eq_zero, Nat.add_mod_eq_ite, Nat.mod_eq_of_lt hone]
    split <;> omega
  have hfall : nextTod reload (reload - n % reload) = reload / 2 ↔ reload ∣ n + reload / 2 + 1 := by
    rw [nextTod_phase (by omega), Nat.add_right_comm, ← mod_eq_half_iff hreload heven]
    omega
  simp only [tickSends, List.count_append, count_ite_todRound, hrise, hfall]
  cases level
  case true =>
    rw [edgeLead_rising]
    simp
  case false =>
    rw [edgeLead_falling]
    simp

/-- Over one operation, the edges of a level sent to a target are the periods that its TICKs complete, the lead of the
level counted in. -/
theorem State.AtPhase.count_sends {n : Nat} (hn : s.AtPhase n) (hreload : 2 ≤ s.cfg.todReload)
    (heven : s.cfg.todReload % 2 = 0) (es : List Nat) (i : Instr) (level : Bit) (e : Nat) :
    (opSends es i s).count ⟨e, .tod, level⟩ +
        es.count e * ((n + edgeLead s.cfg.todReload level) / s.cfg.todReload) =
      es.count e * ((n + tickCount i s + edgeLead s.cfg.todReload level) / s.cfg.todReload) := by
  obtain hcount | hcount := tickCount_cases i s
  case inl => simp [opSends_of_none, hcount]
  case inr =>
    rw [opSends_of_pass hcount, hcount, hn, count_tickSends es hreload heven, Nat.add_right_comm n 1, Nat.succ_div,
      Nat.mul_add, mul_ite, Nat.mul_one, Nat.mul_zero, Nat.add_comm]

/-- Over a run that leaves the receivers alone, likewise. -/
theorem State.AtPhase.count_sent : ∀ {is : List Instr} {s : State} {n : Nat} {es : List Nat}, s.AtPhase n →
    2 ≤ s.cfg.todReload → s.cfg.todReload % 2 = 0 → s.clk.targets = es.map .ext → (∀ i ∈ is, LeavesReceivers i) →
    execAll is s = .next t → ∃ sent, t.out.notify = s.out.notify ++ sent ∧ ∀ level e,
      sent.count ⟨e, .tod, level⟩ + es.count e * ((n + edgeLead s.cfg.todReload level) / s.cfg.todReload) =
        es.count e * ((n + enabledTicks is s + edgeLead s.cfg.todReload level) / s.cfg.todReload)
  | [], s, n, es, _, _, _, _, _, h => by
    cases h
    exact ⟨[], by simp, fun level e => by simp [enabledTicks]⟩
  | i :: is, s, n, es, hn, hreload, heven, hes, his, h => by
    obtain ⟨hi, his⟩ := List.forall_mem_cons.mp his
    obtain ⟨u, hu, ht⟩ := execAll_cons_next.mp h
    have hcfg := exec_keeps_cfg hu
    have hfirst := exec_sends hes hi hu
    have hphase := hn.of_exec (Nat.le_of_succ_le hreload) hu
    obtain ⟨sent, hrest, hcount⟩ := hphase.count_sent (hcfg ▸ hreload) (hcfg ▸ heven)
      ((exec_keeps_targets hi hu).trans hes) his ht
    refine ⟨_, by rw [hrest, hfirst, List.append_assoc], fun level e => ?_⟩
    have hone := hn.count_sends hreload heven es i level e
    have hmany := hcount level e
    rw [hcfg] at hmany
    rw [List.count_append, enabledTicks_cons hu, ← Nat.add_assoc, ← hmany, ← hone]
    omega

/-- Settles O34: a full countdown is at phase 0, before which no period is complete. -/
theorem todRoundsClosedForm : Obligations.TodRoundsClosedForm := by
  intro is s t es hreload heven hfull hes his h
  have hzero : s.AtPhase 0 := by rw [State.AtPhase, hfull, Nat.zero_mod, Nat.sub_zero]
  obtain ⟨sent, hsent, hcount⟩ := hzero.count_sent hreload heven hes his h
  refine ⟨sent, hsent, fun e => ⟨?rising, ?falling⟩⟩
  case rising => simpa [edgeLead] using hcount true e
  case falling =>
    have hhalf : s.cfg.todReload / 2 / s.cfg.todReload = 0 := Nat.div_eq_of_lt (by omega)
    simpa [edgeLead, hhalf] using hcount false e

/-! ## The waits before a strict TICK -/

/-- An operation lowers `bar.pending` only as a WAIT, and by one (40_barrier R121). -/
theorem Effect.pending_le_add_waits (he : Effect s i u) (h : s.bar.pending ≤ s.bar.expected) :
    s.bar.pending ≤ u.bar.pending + waitCount [i] := by
  obtain hbar | ⟨a, -, hbar⟩ | ⟨a, rfl, hbar⟩ | ⟨-, hbar⟩ := he.bar_cases <;> rw [hbar]
  · exact Nat.le_add_right _ _
  · exact Nat.le_add_right _ _
  · exact Nat.le_add_of_sub_le (Nat.le_refl _)
  · exact Nat.le_add_right_of_le h

theorem waitCount_cons (i : Instr) (is : List Instr) : waitCount (i :: is) = waitCount [i] + waitCount is :=
  List.countP_append (l₁ := [i])

/-- Over a run, `bar.pending` falls by no more than its WAITs. -/
theorem execAll_pending_le : ∀ {is : List Instr} {s : State}, s.bar.pending ≤ s.bar.expected →
    execAll is s = .next t → t.cfg = s.cfg ∧ s.bar.pending ≤ t.bar.pending + waitCount is
  | [], s, _, h => by
    cases h
    exact ⟨rfl, Nat.le_refl _⟩
  | i :: is, s, hle, h => by
    obtain ⟨v, hv, ht⟩ := execAll_cons_next.mp h
    obtain ⟨u, r, he, rfl⟩ := exec_performs hv
    have hone := he.pending_le_add_waits hle
    obtain ⟨hcfg, hmany⟩ := execAll_pending_le (s := u.answered r) (he.pending_le hle) ht
    refine ⟨hcfg.trans he.keeps_params.1, ?_⟩
    rw [waitCount_cons]
    rw [State.answered_bar] at hmany
    omega

/-- Settles O35: a strict TICK is enabled with nothing pending only, and only WAITs lower `bar.pending`. -/
theorem strictTickNeedsTheWaits : Obligations.StrictTickNeedsTheWaits := by
  intro is s t hle hstrict h henabled
  obtain ⟨hcfg, hpending⟩ := execAll_pending_le hle h
  obtain ⟨-, hbest | hnone⟩ := tickEnabled_iff.mp henabled
  · simp [hcfg, hstrict] at hbest
  · rwa [hnone, Nat.zero_add] at hpending

end Sys2Proof.Machine
end

section
/-! SUPPORT. The shared bus: where an address is routed, what an access answers and leaves, its laws, and the replacement
of its tables and of its color reference. -/

namespace Sys2Proof.Machine

variable {s u : State} {i : Instr}

/-! ## Pages and storage bytes -/

/-- A table's entry for an address stands at the address's high byte (20_memory R60). -/
theorem getElem?_entries_eq_handlerAt {α : Type} (table : PageTable α) (addr : Addr) :
    table.entries[addr.toNat / 256]? = some (handlerAt table addr) := by
  have hpage : (pageOf addr).toNat = addr.toNat / 256 := by
    have hlt := addr.isLt
    rw [pageOf, slice_toNat]
    omega
  rw [handlerAt, List.get_eq_getElem, ← hpage]
  exact List.getElem?_eq_getElem _

/-- A page write to a storage device is read back there (20_memory R63). -/
theorem read_writtenMem_storage {m : Memory} (hm : Memory.wf m = true) (d : Nat) (addr : Addr) (v : Byte) :
    Memory.read (writtenMem m (.storage d) addr v) (cellKey d addr) = v :=
  Memory.read_write_same hm _ v

/-- A page read from a storage device after a page write to it returns the byte written. -/
theorem pageRead_pageWrite_storage {p : Platform} (hmem : Memory.wf p.mem = true) (d : Nat) (addr : Addr) (v : Byte) :
    (pageRead (pageWrite p (.storage d) addr v) (.storage d) addr).1 = v :=
  read_writtenMem_storage hmem d addr v

/-- A page write changes no storage byte but that of its device, if that is one, at its address. -/
theorem read_writtenMem_other {m : Memory} {w : WriteHandler} {addr : Addr} {a : Nat} (v : Byte)
    (ha : ∀ d, w = .storage d → a ≠ cellKey d addr) : Memory.read (writtenMem m w addr v) a = Memory.read m a := by
  cases w with
  | storage d => exact Memory.read_write_other m v (ha d rfl)
  | null => rfl
  | ext e => rfl

/-! ## Load results as responses -/

/-- A byte as a response (30_encoding R103), written with its zero bits. -/
theorem zero_append_byte (d : Byte) : 0#8 ++ d = d.setWidth 16 :=
  (BitVec.setWidth_eq_append (by decide)).symm

theorem respLoad_eq_append (x : BitVec 12) : respLoad x = 0#4 ++ x :=
  BitVec.setWidth_eq_append (by decide)

theorem respLoad_cpuResult (d : Byte) : respLoad (cpuResult d) = 0#8 ++ d := by
  rw [zero_append_byte, respLoad, cpuResult, BitVec.setWidth_setWidth (by decide)]

theorem vicResult_eq_append (d c : Byte) : vicResult d c = c.extractLsb' 0 4 ++ d := by
  rw [vicResult, ← BitVec.setWidth_append_eq_shiftLeft_setWidth_or, BitVec.setWidth_eq]

/-- The color byte's low nibble stands in bits 11:8 of the response (42_bus R162). -/
theorem respLoad_vicResult (d c : Byte) : respLoad (vicResult d c) = 0#4 ++ c.extractLsb' 0 4 ++ d := by
  rw [vicResult_eq_append, respLoad_eq_append]
  exact BitVec.append_assoc'

/-- A tri-stated VIC LOAD answers as if the page held 0xFF and the color RAM the latch (42_bus R162). -/
theorem respLoad_vicFloating (prev : Byte) :
    respLoad (vicFloating prev) = 0#4 ++ prev.extractLsb' 0 4 ++ 0xFF#8 :=
  respLoad_vicResult 0xFF#8 prev

theorem zero_append_lowNibble (c : Byte) : 0#4 ++ c.extractLsb' 0 4 = c &&& 0x0F#8 := by
  apply BitVec.eq_of_toNat_eq
  have hmask : c.toNat &&& 15 = c.toNat % 16 := Nat.and_two_pow_sub_one_eq_mod c.toNat 4
  rw [append_toNat, slice_toNat, BitVec.toNat_and, BitVec.toNat_ofNat, BitVec.toNat_ofNat, hmask]
  omega

/-- A VIC response in the form of R168: the byte, and the masked color byte shifted left by 8. -/
theorem lowNibble_append_byte (d c : Byte) :
    0#4 ++ c.extractLsb' 0 4 ++ d = d.setWidth 16 ||| ((c &&& 0x0F#8).setWidth 16 <<< 8) := by
  rw [zero_append_lowNibble, BitVec.or_comm, ← BitVec.setWidth_append_eq_shiftLeft_setWidth_or, BitVec.setWidth_eq]

/-! ## The words of LOAD and STORE -/

theorem viewBit_eq_ite (view : View) : viewBit view = if view = .vic then 1#1 else 0#1 := by
  cases view <;> rfl

theorem bit1_eq_ite (b : Bit) : bit1 b = if b then 1#1 else 0#1 := by
  cases b <;> rfl

theorem encode_store_eq (addr : Addr) (v : Byte) (view : View) (aec : Bit) : encode (.store addr v view aec) =
    0x10#6 ++ (if view = .vic then 1#1 else 0#1) ++ (if aec then 1#1 else 0#1) ++ v ++ addr := by
  rw [encode, viewBit_eq_ite, bit1_eq_ite]

theorem encode_load_eq (addr : Addr) (view : View) (aec : Bit) : encode (.load addr view aec) =
    0x11#6 ++ (if view = .vic then 1#1 else 0#1) ++ (if aec then 1#1 else 0#1) ++ 0#8 ++ addr := by
  rw [encode, viewBit_eq_ite, bit1_eq_ite]

/-! ## Accesses to an initialised bus -/

/-- The state after an honoured access: the platform after its calls, and the byte it put on the lines in the latch. -/
def State.latched (s : State) (p : Platform) (d : Byte) : State := (s.withPlatform p).withBus { s.bus with prev := d }

@[simp] theorem State.latched_bus (s : State) (p : Platform) (d : Byte) :
    (s.latched p d).bus = { s.bus with prev := d } := rfl
@[simp] theorem State.latched_platform (s : State) (p : Platform) (d : Byte) : (s.latched p d).platform = p := rfl

/-- The components of an initialised bus, in one equation. -/
theorem isInitialized_iff_eq {b : Bus} : isInitialized b = true ↔
    ∃ rd wr vic color, b = ⟨b.prev, some rd, some wr, some vic, some color⟩ := by
  obtain ⟨prev, cpuRd, cpuWr, vicRd, color⟩ := b
  simp [isInitialized_iff]

section
variable {rd : ReadTable} {wr : WriteTable} {vic : ReadTable} {color : ColorRef}
  (hbus : s.bus = ⟨s.bus.prev, some rd, some wr, some vic, some color⟩)
include hbus

/-- An honoured access keeps the tables and the color reference (42_bus R161, R162). -/
theorem State.latched_bus_of_eq (p : Platform) (d : Byte) :
    (s.latched p d).bus = ⟨d, some rd, some wr, some vic, some color⟩ := by
  rw [State.latched_bus, hbus]

variable (addr : Addr)

/-- An honoured STORE calls the page's write handler and latches the value (42_bus R161). -/
theorem exec_store_cpu_driven (v : Byte) : exec (.store addr v .cpu true) s =
    done (s.latched (pageWrite s.platform (handlerAt wr addr) addr v) v) := by
  rw [exec, execStore, State.latched, hbus]
  rfl

/-- Any other STORE calls nothing (42_bus R161). -/
theorem exec_store_not_honoured {view : View} {aec : Bit} (v : Byte) (h : view = .vic ∨ aec = false) :
    exec (.store addr v view aec) s = done s := by
  rw [exec, execStore, hbus]
  obtain rfl | rfl := h
  · rfl
  · cases view <;> rfl

/-- A driven CPU LOAD reads the page's handler and latches its byte (42_bus R162). -/
theorem exec_load_cpu_driven : exec (.load addr .cpu true) s =
    reply (respLoad (cpuResult (pageRead s.platform (handlerAt rd addr) addr).1))
      (s.latched (pageRead s.platform (handlerAt rd addr) addr).2 (pageRead s.platform (handlerAt rd addr) addr).1) := by
  rw [exec, execLoad, State.latched, hbus]
  rfl

theorem exec_load_cpu_tristated : exec (.load addr .cpu false) s = reply (respLoad cpuSentinel) s := by
  rw [exec, execLoad, hbus]
  rfl

/-- A driven VIC LOAD reads the page's handler, then the color reference, and latches the page's byte (42_bus R162). -/
theorem exec_load_vic_driven : exec (.load addr .vic false) s =
    reply (respLoad (vicResult (pageRead s.platform (handlerAt vic addr) addr).1
        (colorRead (pageRead s.platform (handlerAt vic addr) addr).2 color addr).1))
      (s.latched (colorRead (pageRead s.platform (handlerAt vic addr) addr).2 color addr).2
        (pageRead s.platform (handlerAt vic addr) addr).1) := by
  rw [exec, execLoad, State.latched, hbus]
  rfl

theorem exec_load_vic_tristated :
    exec (.load addr .vic true) s = reply (respLoad (vicFloating s.bus.prev)) s := by
  rw [exec, execLoad, hbus]
  rfl

end

/-! ## Accesses to an uninitialised bus -/

/-- A STORE on an uninitialised bus takes the fault (42_bus R167). -/
theorem exec_store_uninitialized (h : isInitialized s.bus = false) (addr : Addr) (v : Byte) (view : View) (aec : Bit) :
    exec (.store addr v view aec) s = takeFault .busNotInitialized (.store addr v view aec) s := by
  rw [exec, execStore]
  split
  · exact absurd (isInitialized_of_some ‹_› ‹_› ‹_› ‹_›) (Bool.eq_false_iff.mp h)
  · rfl

/-- A LOAD on an uninitialised bus takes the fault (42_bus R167). -/
theorem exec_load_uninitialized (h : isInitialized s.bus = false) (addr : Addr) (view : View) (aec : Bit) :
    exec (.load addr view aec) s = takeFault .busNotInitialized (.load addr view aec) s := by
  rw [exec, execLoad]
  split
  · exact absurd (isInitialized_of_some ‹_› ‹_› ‹_› ‹_›) (Bool.eq_false_iff.mp h)
  · rfl

/-! ## STORE and LOAD -/

/-- Settles O38: an honoured STORE is a page write and a latch; on an initialised bus any other does nothing; on an
uninitialised one it takes the fault. -/
theorem storeFollowsItsRule : Obligations.StoreFollowsItsRule := by
  intro s addr v view aec
  refine ⟨decode_eq_of_encode (encode_store_eq addr v view aec), fun table => getElem?_entries_eq_handlerAt table addr,
    fun rd wr vic color hbus hmem => ?honoured, fun hinit hnot => ?ignored,
    fun huninit => exec_store_uninitialized huninit addr v view aec⟩
  case honoured =>
    refine ⟨writtenMem s.platform.mem (handlerAt wr addr) addr v, exec_store_cpu_driven hbus addr v,
      writtenMem_wf hmem _ addr v, fun d hd => ?written, fun a ha => read_writtenMem_other v ha⟩
    rw [hd]
    exact read_writtenMem_storage hmem d addr v
  case ignored =>
    obtain ⟨rd, wr, vic, color, hbus⟩ := isInitialized_iff_eq.mp hinit
    exact exec_store_not_honoured hbus addr v hnot

/-- Settles O39: the two driven cases read through the handlers, which write no storage byte, and latch; the two others
write nothing. -/
theorem loadFollowsItsRule : Obligations.LoadFollowsItsRule := by
  intro s addr view aec
  refine ⟨decode_eq_of_encode (encode_load_eq addr view aec), fun table => getElem?_entries_eq_handlerAt table addr,
    fun rd wr vic color hbus => ⟨?cpuDriven, ?cpuTristated, ?vicDriven, ?vicTristated, fun a => ⟨rfl, rfl⟩⟩,
    fun huninit => exec_load_uninitialized huninit addr view aec⟩
  case cpuDriven =>
    rw [exec_load_cpu_driven hbus, respLoad_cpuResult]
    rfl
  case cpuTristated => exact exec_load_cpu_tristated hbus addr
  case vicDriven =>
    rw [exec_load_vic_driven hbus, respLoad_vicResult]
    rfl
  case vicTristated =>
    rw [exec_load_vic_tristated hbus, respLoad_vicFloating]
    rfl

/-! ## The laws of the bus -/

/-- A byte stored on a page whose reads go to the same storage device is read back, and latched both times
(42_bus R168). -/
theorem execAll_store_load {rd : ReadTable} {wr : WriteTable} {vic : ReadTable} {color : ColorRef} {addr : Addr} {k : Nat}
    (hbus : s.bus = ⟨s.bus.prev, some rd, some wr, some vic, some color⟩) (hmem : Memory.wf s.platform.mem = true)
    (hwr : handlerAt wr addr = .storage k) (hrd : handlerAt rd addr = .storage k) (v : Byte) :
    ∃ t, execAll [.store addr v .cpu true, .load addr .cpu true] s = .next t ∧
      t.port.resp = some (respLoad (cpuResult v)) ∧ t.bus.prev = v := by
  have hstore := exec_store_cpu_driven hbus addr v
  rw [hwr] at hstore
  have hlatched := State.latched_bus_of_eq hbus (pageWrite s.platform (.storage k) addr v) v
  have hload := exec_load_cpu_driven (s := (s.latched (pageWrite s.platform (.storage k) addr v) v).answered none)
    hlatched addr
  rw [State.answered_platform, State.latched_platform, hrd, pageRead_pageWrite_storage hmem] at hload
  exact ⟨_, execAll_cons_next.mpr ⟨_, hstore, execAll_cons_next.mpr ⟨_, hload, rfl⟩⟩, rfl, rfl⟩

/-- Settles O40: the first law runs the two accesses one after the other; the others read off the response of one. -/
theorem busLaws : Obligations.BusLaws := by
  intro s addr v rd wr vic color hbus hmem
  refine ⟨fun k hwr hrd => ?storeLoad, ?cpuTristated, fun d c hd hc => ?vicDriven, fun p => ?vicTristated⟩
  case storeLoad =>
    rw [← zero_append_byte, ← respLoad_cpuResult]
    exact execAll_store_load hbus hmem hwr hrd v
  case cpuTristated => exact ⟨_, exec_load_cpu_tristated hbus addr, rfl⟩
  case vicDriven =>
    rw [← lowNibble_append_byte, ← respLoad_vicResult, ← hd, ← hc]
    exact ⟨_, exec_load_vic_driven hbus addr, rfl, rfl⟩
  case vicTristated =>
    refine ⟨_, exec_load_vic_tristated (s := { s with platform := p }) hbus addr, ?_⟩
    exact congrArg some ((respLoad_vicFloating s.bus.prev).trans (lowNibble_append_byte 0xFF#8 s.bus.prev))

/-! ## ISINIT -/

/-- A bus stays initialised whatever an operation does: it replaces tables and references by present ones only
(10_state R32). -/
theorem Effect.keeps_initialized (he : Effect s i u) (h : isInitialized s.bus = true) :
    isInitialized u.bus = true := by
  obtain ⟨rd, wr, vic, color, hrd, hwr, hvic, hcolor⟩ := isInitialized_iff.mp h
  cases he with
  | setcpu => exact isInitialized_of_some rfl rfl hvic hcolor
  | setvic => exact isInitialized_of_some hrd hwr rfl hcolor
  | setcolor => exact isInitialized_of_some hrd hwr hvic rfl
  | tick hu => rwa [(tickPass_delivers hu).bus]
  | andNotify hu => rwa [(andDeliver_delivers hu).bus]
  | _ => exact h

/-- Settles O41: ISINIT reads the predicate, and no effect makes a component of the bus absent. -/
theorem isinitReportsAndStaysTrue : Obligations.IsinitReportsAndStaysTrue := by
  intro s
  refine ⟨decode_eq_of_encode (by decide), rfl, ?present, rfl, rfl, fun t hinit hstep => ?stays⟩
  case present => simp [isInitialized, Option.isSome_iff_ne_none, and_assoc]
  case stays =>
    obtain rfl | ⟨r, rest, i, u, _, he, rfl⟩ := step_performs hstep
    · exact hinit
    · exact he.keeps_initialized hinit

/-! ## SETCPU, SETVIC and SETCOLOR -/

theorem readTable?_eq_some {c : Config} {id : BitVec 8} {table : ReadTable} :
    c.readTable? id = some table ↔ c.tableBank.lookup id = some (.read table) := by
  unfold Config.readTable?
  split <;> simp_all

theorem writeTable?_eq_some {c : Config} {id : BitVec 8} {table : WriteTable} :
    c.writeTable? id = some table ↔ c.tableBank.lookup id = some (.write table) := by
  unfold Config.writeTable?
  split <;> simp_all

/-- An id names no read table where its entry is absent or a write table (42_bus R164). -/
theorem readTable?_eq_none {c : Config} {id : BitVec 8}
    (h : ∀ table, c.tableBank.lookup id ≠ some (.read table)) : c.readTable? id = none :=
  Option.eq_none_iff_forall_ne_some.mpr fun table => mt readTable?_eq_some.mp (h table)

theorem writeTable?_eq_none {c : Config} {id : BitVec 8}
    (h : ∀ table, c.tableBank.lookup id ≠ some (.write table)) : c.writeTable? id = none :=
  Option.eq_none_iff_forall_ne_some.mpr fun table => mt writeTable?_eq_some.mp (h table)

theorem execSetcpu_of_entries {r w : BitVec 8} {rd : ReadTable} {wr : WriteTable}
    (hr : s.cfg.readTable? r = some rd) (hw : s.cfg.writeTable? w = some wr) :
    execSetcpu r w s = done (s.withBus { s.bus with cpuRd := some rd, cpuWr := some wr }) := by
  simp only [execSetcpu, hr, hw]

theorem execSetcpu_of_absent {r w : BitVec 8} (h : s.cfg.readTable? r = none ∨ s.cfg.writeTable? w = none) :
    execSetcpu r w s = .refused .noSuchBankEntry := by
  unfold execSetcpu
  split
  · simp_all
  · rfl

/-- Settles O42: SETCPU looks both ids up first and writes only where both name a table of their kind. -/
theorem setcpuReplacesBothTables : Obligations.SetcpuReplacesBothTables := by
  intro r w s
  exact ⟨decode_eq_of_encode rfl,
    fun rd wr hr hw => execSetcpu_of_entries (readTable?_eq_some.mpr hr) (writeTable?_eq_some.mpr hw),
    fun h => execSetcpu_of_absent (h.imp readTable?_eq_none writeTable?_eq_none)⟩

theorem execSetvic_of_entry {id : BitVec 8} {vic : ReadTable} (h : s.cfg.readTable? id = some vic) :
    execSetvic id s = done (s.withBus { s.bus with vicRd := some vic }) := by
  simp only [execSetvic, h]

theorem execSetvic_of_absent {id : BitVec 8} (h : s.cfg.readTable? id = none) :
    execSetvic id s = .refused .noSuchBankEntry := by
  simp only [execSetvic, h]

theorem execSetcolor_of_entry {id : BitVec 8} {color : ColorRef} (h : s.cfg.colorRef? id = some color) :
    execSetcolor id s = done (s.withBus { s.bus with color := some color }) := by
  simp only [execSetcolor, h]

theorem execSetcolor_of_absent {id : BitVec 8} (h : s.cfg.colorRef? id = none) :
    execSetcolor id s = .refused .noSuchBankEntry := by
  simp only [execSetcolor, h]

/-- Settles O43: each looks its id up in its bank and replaces the whole reference by what it finds. -/
theorem setvicAndSetcolorReplace : Obligations.SetvicAndSetcolorReplace := by
  intro id s
  exact ⟨decode_eq_of_encode rfl, decode_eq_of_encode rfl,
    fun vic hvic => execSetvic_of_entry (readTable?_eq_some.mpr hvic),
    fun habsent => execSetvic_of_absent (readTable?_eq_none habsent),
    fun color hcolor => execSetcolor_of_entry hcolor,
    fun habsent => execSetcolor_of_absent habsent⟩

end Sys2Proof.Machine
end

section
/-! SUPPORT. The Counter, the FlipFlop, the delay-clocked FlipFlop and the WireAnd: what an operation does to a primitive
that the block has, and the laws of the Counter and of the WireAnd over runs. -/

namespace Sys2Proof.Machine

variable {s : State} {i : BitVec 8}

/-! ## A primitive that the block has -/

theorem onCounter_of_some {c : Counter} (h : s.ctr[i.toNat]? = some c) (k : Counter → Result) :
    onCounter i s k = k c := by
  rw [onCounter, h]

theorem onFlipFlop_of_some {f : FlipFlop} (h : s.ff[i.toNat]? = some f) (k : FlipFlop → Result) :
    onFlipFlop i s k = k f := by
  rw [onFlipFlop, h]

theorem onDelayFlipFlop_of_some {f : DelayFlipFlop} (h : s.dff[i.toNat]? = some f) (k : DelayFlipFlop → Result) :
    onDelayFlipFlop i s k = k f := by
  rw [onDelayFlipFlop, h]

theorem onWireAnd_of_some {w : WireAnd} (h : s.wand[i.toNat]? = some w) (k : WireAnd → Result) :
    onWireAnd i s k = k w := by
  rw [onWireAnd, h]

/-- A primitive that is replaced is read back as its replacement. -/
theorem getElem?_set_of_some {α : Type} {l : List α} {n : Nat} {x : α} (h : l[n]? = some x) (y : α) :
    (l.set n y)[n]? = some y := by
  obtain ⟨hn, -⟩ := List.getElem?_eq_some_iff.mp h
  exact List.getElem?_set_self hn

/-! ## The Counter -/

theorem encode_ctrDec_eq (i : BitVec 8) (on : Bit) :
    encode (.ctrDec i on) = 0x1A#6 ++ i ++ 0#17 ++ (if on then 1#1 else 0#1) := by
  rw [encode, bit1_eq_ite]

/-- A low byte and then a high byte make the latch the two together (43_logic_primitives R180, R181). -/
theorem withHighByte_withLowByte (latch : Word16) (low high : Byte) :
    withHighByte (withLowByte latch low) high = high ++ low := by
  rw [withHighByte, withLowByte, BitVec.extractLsb'_append_eq_right]

/-- The wrap at 0 is that of 16-bit subtraction (43_logic_primitives R183). -/
theorem countDown_eq_sub (c : Word16) : countDown c = c - 1#16 := by
  by_cases hzero : c = 0#16
  · rw [hzero]
    decide
  · exact if_neg hzero

theorem isZero_iff {c : Counter} : isZero c = true ↔ c.counter.toNat = 0 := by
  rw [isZero, decide_eq_true_iff, ← BitVec.toNat_inj]
  rfl

section
variable {c : Counter} (hc : s.ctr[i.toNat]? = some c)
include hc

theorem exec_ctrWlo (byte : Byte) : exec (.ctrWlo i byte) s =
    done (s.withCtr i.toNat { c with latch := withLowByte c.latch byte }) :=
  onCounter_of_some hc _

/-- While not decrementing, CTR.WHI reloads the counter (43_logic_primitives R181). -/
theorem exec_ctrWhi_reloads (hdec : c.decrementing = false) (byte : Byte) : exec (.ctrWhi i byte) s =
    done (s.withCtr i.toNat
      { c with latch := withHighByte c.latch byte, counter := withHighByte c.latch byte }) :=
  (onCounter_of_some hc _).trans (if_neg (Bool.eq_false_iff.mp hdec))

/-- While decrementing, CTR.WHI keeps the counter and takes a draw (43_logic_primitives R181). -/
theorem exec_ctrWhi_draws (hdec : c.decrementing = true) (byte : Byte) : exec (.ctrWhi i byte) s =
    done ((s.withCtr i.toNat { c with
      latch := withHighByte c.latch byte
      pendingReload := Config.pendingReloadDraw s.draws }).withDraws (s.draws + 1)) :=
  (onCounter_of_some hc _).trans (if_pos hdec)

theorem exec_ctrClk_counts (hdec : c.decrementing = true) : exec (.ctrClk i) s =
    done (s.withCtr i.toNat { c with counter := c.counter - 1#16 }) := by
  rw [← countDown_eq_sub]
  exact (onCounter_of_some hc _).trans (if_pos hdec)

theorem exec_ctrClk_idles (hdec : c.decrementing = false) : exec (.ctrClk i) s = done s :=
  (onCounter_of_some hc _).trans (if_neg (Bool.eq_false_iff.mp hdec))

theorem exec_ctrZero : exec (.ctrZero i) s = reply (if c.counter.toNat = 0 then 1#16 else 0#16) s := by
  have hzero : isZero c = decide (c.counter.toNat = 0) := Bool.eq_iff_iff.mpr (by rw [isZero_iff, decide_eq_true_iff])
  rw [← respBit_decide, ← hzero]
  exact onCounter_of_some hc _

end

/-- Settles O44: each write replaces the Counter it finds; only CTR.WHI branches on `decrementing`. -/
theorem counterWrites : Obligations.CounterWrites := by
  intro i byte on s c hc
  exact ⟨decode_eq_of_encode rfl, decode_eq_of_encode rfl, decode_eq_of_encode (encode_ctrDec_eq i on),
    exec_ctrWlo hc byte, fun hdec => exec_ctrWhi_reloads hc hdec byte,
    fun hdec => ⟨Config.pendingReloadDraw s.draws, exec_ctrWhi_draws hc hdec byte⟩, onCounter_of_some hc _⟩

/-- Settles O45: CTR.CLK is `countDown` behind the test of `decrementing`; the two reads only answer. -/
theorem counterClockAndReads : Obligations.CounterClockAndReads := by
  intro i s c hc
  exact ⟨decode_eq_of_encode rfl, decode_eq_of_encode rfl, decode_eq_of_encode rfl, exec_ctrClk_counts hc,
    exec_ctrClk_idles hc, exec_ctrZero hc, onCounter_of_some hc _⟩

/-- Two writes to a Counter that is not decrementing make its counter the two bytes (43_logic_primitives R199). -/
theorem execAll_ctrWlo_ctrWhi {c : Counter} (hc : s.ctr[i.toNat]? = some c) (hdec : c.decrementing = false)
    (low high : Byte) : ∃ t d, execAll [.ctrWlo i low, .ctrWhi i high] s = .next t ∧ t.ctr[i.toNat]? = some d ∧
      d.counter = high ++ low := by
  have hlow := getElem?_set_of_some hc { c with latch := withLowByte c.latch low }
  have hwhi := exec_ctrWhi_reloads
    (s := (s.withCtr i.toNat { c with latch := withLowByte c.latch low }).answered none) hlow hdec high
  exact ⟨_, _, execAll_cons_next.mpr ⟨_, exec_ctrWlo hc low, execAll_cons_next.mpr ⟨_, hwhi, rfl⟩⟩,
    getElem?_set_of_some hlow _, withHighByte_withLowByte c.latch low high⟩

/-- `k` clocks of a decrementing Counter lower its counter by `k` and change nothing else of it
(43_logic_primitives R183, R199). -/
theorem execAll_ctrClks : ∀ (k : Nat) {s : State} {c : Counter}, s.ctr[i.toNat]? = some c → c.decrementing = true →
    ∃ t, execAll (List.replicate k (.ctrClk i)) s = .next t ∧
      t.ctr[i.toNat]? = some { c with counter := c.counter - BitVec.ofNat 16 k }
  | 0, s, c, hc, _ => ⟨s, rfl, by rw [BitVec.sub_zero, hc]⟩
  | k + 1, s, c, hc, hdec => by
    have hclocked := getElem?_set_of_some hc { c with counter := c.counter - 1#16 }
    obtain ⟨t, ht, hcount⟩ := execAll_ctrClks k
      (s := (s.withCtr i.toNat { c with counter := c.counter - 1#16 }).answered none) hclocked hdec
    refine ⟨t, execAll_cons_next.mpr ⟨_, exec_ctrClk_counts hc hdec, ht⟩, ?_⟩
    have hsub : c.counter - BitVec.ofNat 16 (k + 1) = c.counter - 1#16 - BitVec.ofNat 16 k := by
      rw [Nat.add_comm, BitVec.ofNat_add, sub_add_eq_sub_sub]
    rw [hcount, hsub]

/-- Settles O46: the closed form of `k` clocks, read as a number, gives the zero and the underflow by arithmetic. -/
theorem counterLaw : Obligations.CounterLaw := by
  intro i s c hc
  refine ⟨fun hdec => execAll_ctrWlo_ctrWhi hc hdec 0x34#8 0x12#8, fun hdec k => ?clocks⟩
  case clocks =>
    obtain ⟨t, ht, hcount⟩ := execAll_ctrClks k hc hdec
    have hnum : (c.counter - BitVec.ofNat 16 k).toNat = (c.counter.toNat + 65535 * k) % 65536 := by
      rw [BitVec.toNat_sub, BitVec.toNat_ofNat]
      omega
    refine ⟨t, _, ht, hcount, hnum, fun hstart hk => ?zero, fun hstart hk => ?underflow⟩
    case zero =>
      rw [isZero_iff, hnum, hstart, BitVec.toNat_ofNat]
      omega
    case underflow =>
      rw [hstart, hk]
      rfl

/-! ## The flip-flops -/

/-- Settles O47: each operation writes or answers the FlipFlop it finds. -/
theorem flipFlopOperations : Obligations.FlipFlopOperations := by
  intro i s f hf
  exact ⟨decode_eq_of_encode rfl, decode_eq_of_encode rfl, decode_eq_of_encode rfl, decode_eq_of_encode rfl,
    onFlipFlop_of_some hf _, onFlipFlop_of_some hf _, onFlipFlop_of_some hf _, onFlipFlop_of_some hf _⟩

/-- Settles O48: each operation writes one of the two values of the FlipFlop it finds, or answers the observable one. -/
theorem delayFlipFlopOperations : Obligations.DelayFlipFlopOperations := by
  intro i s f hf
  exact ⟨decode_eq_of_encode rfl, decode_eq_of_encode rfl, decode_eq_of_encode rfl, decode_eq_of_encode rfl,
    decode_eq_of_encode rfl, onDelayFlipFlop_of_some hf _, onDelayFlipFlop_of_some hf _,
    onDelayFlipFlop_of_some hf _, onDelayFlipFlop_of_some hf _, onDelayFlipFlop_of_some hf _⟩

/-! ## The WireAnd -/

theorem encode_wandSet_eq (i : BitVec 8) (line : WireLine) (level : Bit) : encode (.wandSet i line level) =
    0x38#6 ++ i ++ 0#9 ++ lineBit line ++ 0#7 ++ (if level then 1#1 else 0#1) := by
  rw [encode, bit1_eq_ite]

/-- The level of the line that is not `line`. -/
def WireAnd.otherLine (w : WireAnd) : WireLine → Bit
  | .one => w.line2
  | .two => w.line1

/-- The output after a line is set is the AND of its level and of the other line (43_logic_primitives R201). -/
theorem wireOut_driveLine (line : WireLine) (level : Bit) (w : WireAnd) :
    wireOut (driveLine line level w) = (level && w.otherLine line) := by
  cases line with
  | one => rfl
  | two => exact Bool.and_comm _ _

section
variable {w : WireAnd} (hw : s.wand[i.toNat]? = some w)
include hw

theorem exec_wandSet (line : WireLine) (level : Bit) :
    exec (.wandSet i line level) s = done (s.withWand i.toNat (driveLine line level w)) :=
  onWireAnd_of_some hw _

theorem exec_wandGet : exec (.wandGet i) s = reply (respBit (wireOut w)) s := onWireAnd_of_some hw _

/-- A line set and the output read: the response is the AND of the level and of the other line. -/
theorem execAll_wandSet_wandGet (line : WireLine) (level : Bit) :
    ∃ t, execAll [.wandSet i line level, .wandGet i] s = .next t ∧
      t.port.resp = some (respBit (level && w.otherLine line)) := by
  have hset := getElem?_set_of_some hw (driveLine line level w)
  have hget := exec_wandGet (s := (s.withWand i.toNat (driveLine line level w)).answered none) hset
  rw [wireOut_driveLine] at hget
  exact ⟨_, execAll_cons_next.mpr ⟨_, exec_wandSet hw line level, execAll_cons_next.mpr ⟨_, hget, rfl⟩⟩, rfl⟩

end

/-- Settles O57: WAND.SET drives one line of the WireAnd it finds; WAND.GET answers the AND of its lines. -/
theorem wireAndOperations : Obligations.WireAndOperations := by
  intro i level s w hw
  refine ⟨decode_eq_of_encode (encode_wandSet_eq i .one level), decode_eq_of_encode (encode_wandSet_eq i .two level),
    decode_eq_of_encode rfl, exec_wandSet hw .one level, exec_wandSet hw .two level, ?get⟩
  case get =>
    have hout : wireOut w = decide (w.line1 = true ∧ w.line2 = true) := by simp [wireOut]
    rw [exec_wandGet hw, hout, respBit_decide]
    rfl

/-- Settles O58: the output after setting a line is the AND of its level, 0 or 1, and of the other line. -/
theorem wireAndLaw : Obligations.WireAndLaw := by
  intro i s w line hw
  refine ⟨execAll_wandSet_wandGet hw line false, ?released⟩
  case released =>
    obtain ⟨t, ht, hresp⟩ := execAll_wandSet_wandGet hw line true
    rw [Bool.true_and] at hresp
    cases line <;> exact ⟨t, ht, hresp⟩

end Sys2Proof.Machine
end

section
/-! SUPPORT. The AndPort: which slot a kind drives, what one delivery to an AndPort does and passes on, and AND.NOTIFY on
external and on chained targets. -/

namespace Sys2Proof.Machine

variable {s t : State} {c : AndCfg} {p q : AndPort} {kind : BitVec 5} {level : Bit}

/-! ## The slot that a kind drives -/

/-- Distinct signal kinds have distinct codes: a code is the kind's position in the list of 30_encoding R95. -/
theorem kindCode_injective : Function.Injective kindCode := by
  have hinverse : Function.LeftInverse (fun code : BitVec 5 => SignalKind.ofNat code.toNat) kindCode := by
    intro k
    cases k <;> rfl
  exact hinverse.injective

theorem driveSlot_kind1 (c : AndCfg) (level : Bit) (p : AndPort) :
    driveSlot c (kindCode c.kind1) level p = some ⟨level, p.in2⟩ := if_pos rfl

theorem driveSlot_kind2 (hkinds : c.kind1 ≠ c.kind2) (level : Bit) (p : AndPort) :
    driveSlot c (kindCode c.kind2) level p = some ⟨p.in1, level⟩ :=
  (if_neg (kindCode_injective.ne hkinds.symm)).trans (if_pos rfl)

theorem driveSlot_unwired (h1 : kind ≠ kindCode c.kind1) (h2 : kind ≠ kindCode c.kind2) (level : Bit) (p : AndPort) :
    driveSlot c kind level p = none :=
  (if_neg h1).trans (if_neg h2)

/-! ## One delivery to an AndPort -/

/-- `Notify` (44_signals R222) with the bound on the chain of AndPorts made explicit. -/
def notifyWithin (fuel : Nat) (s : State) (r : Receiver) (kind : SignalKind) (level : Bit) : Option State :=
  match r with
  | .ext e => some (s.delivered ⟨e, kind, level⟩)
  | .andPort j => andDeliver fuel s j (kindCode kind) level

theorem notify_eq_notifyWithin (s : State) (r : Receiver) (kind : SignalKind) (level : Bit) :
    notify s r kind level = notifyWithin s.cfg.nAnd s r kind level := by
  cases r <;> rfl

/-- A delivery names an AndPort that the block has. -/
theorem exists_port_of_andDeliver {fuel j : Nat} (h : andDeliver fuel s j kind level = some t) :
    ∃ n c p, fuel = n + 1 ∧ s.cfg.andCfg[j]? = some c ∧ s.andp[j]? = some p := by
  cases fuel with
  | zero => cases h
  | succ n =>
    rw [andDeliver] at h
    split at h
    · exact ⟨n, _, _, rfl, ‹_›, ‹_›⟩
    · cases h

section
variable {j : Nat} (hc : s.cfg.andCfg[j]? = some c) (hp : s.andp[j]? = some p) (fuel : Nat)
include hc hp

/-- A kind of neither slot is logged and dropped (43_logic_primitives R195). -/
theorem andDeliver_of_unwired (hd : driveSlot c kind level p = none) :
    andDeliver (fuel + 1) s j kind level = some (s.logged ⟨.andPortUnknownSignal, j, kind, level⟩) := by
  simp only [andDeliver, hc, hp, hd]

/-- A kind of a slot sets it, and the AND of the slots as just updated goes to the target (43_logic_primitives R195). -/
theorem andDeliver_of_wired (hd : driveSlot c kind level p = some q) :
    andDeliver (fuel + 1) s j kind level = notifyWithin fuel (s.withAndp j q) c.target c.kindOut (andOut q) := by
  simp only [andDeliver, hc, hp, hd]
  cases c.target <;> rfl

end

/-- A delivery that ends within a bound ends within every larger one, in the same state (44_signals R223). -/
theorem andDeliver_mono : ∀ {fuel fuel' : Nat} {s : State} {j : Nat} {kind : BitVec 5} {level : Bit},
    fuel ≤ fuel' → andDeliver fuel s j kind level = some t → andDeliver fuel' s j kind level = some t
  | 0, _, _, _, _, _, _, h => by cases h
  | fuel + 1, 0, _, _, _, _, hle, _ => absurd hle (Nat.not_succ_le_zero fuel)
  | fuel + 1, fuel' + 1, s, j, kind, level, hle, h => by
    obtain ⟨-, c, p, -, hc, hp⟩ := exists_port_of_andDeliver h
    cases hd : driveSlot c kind level p with
    | none =>
      rw [andDeliver_of_unwired hc hp fuel hd] at h
      rw [andDeliver_of_unwired hc hp fuel' hd, h]
    | some q =>
      rw [andDeliver_of_wired hc hp fuel hd] at h
      rw [andDeliver_of_wired hc hp fuel' hd]
      cases htarget : c.target with
      | ext e =>
        rw [htarget] at h
        exact h
      | andPort k =>
        rw [htarget] at h
        exact andDeliver_mono (Nat.le_of_succ_le_succ hle) h

theorem notifyWithin_mono {fuel fuel' : Nat} {r : Receiver} {k : SignalKind} (hle : fuel ≤ fuel')
    (h : notifyWithin fuel s r k level = some t) : notifyWithin fuel' s r k level = some t := by
  cases r with
  | ext e => exact h
  | andPort j => exact andDeliver_mono hle h

/-! ## AND.NOTIFY -/

theorem encode_andNotify_eq (i : BitVec 8) (kind : BitVec 5) (level : Bit) : encode (.andNotify i kind level) =
    0x30#6 ++ i ++ 0#5 ++ kind ++ 0#7 ++ (if level then 1#1 else 0#1) := by
  rw [encode, bit1_eq_ite]

/-- A block that has an AndPort gives a chain at least one port. -/
theorem exists_nAnd_eq_succ {cfg : Config} {j : Nat} (hc : cfg.andCfg[j]? = some c) :
    ∃ n, cfg.nAnd = n + 1 := by
  obtain ⟨hj, -⟩ := List.getElem?_eq_some_iff.mp hc
  exact Nat.exists_eq_succ_of_ne_zero (Nat.ne_zero_of_lt hj)

section
variable {i : BitVec 8} (hc : s.cfg.andCfg[i.toNat]? = some c) (hp : s.andp[i.toNat]? = some p)
include hc hp

theorem exec_andNotify_of_andDeliver (h : andDeliver s.cfg.nAnd s i.toNat kind level = some t) :
    exec (.andNotify i kind level) s = done t := by
  simp only [exec, execAndNotify, hc, hp, h]

theorem exec_andNotify_unwired (h1 : kind ≠ kindCode c.kind1) (h2 : kind ≠ kindCode c.kind2) (level : Bit) :
    exec (.andNotify i kind level) s = done (s.logged ⟨.andPortUnknownSignal, i.toNat, kind, level⟩) := by
  obtain ⟨n, hn⟩ := exists_nAnd_eq_succ hc
  apply exec_andNotify_of_andDeliver hc hp
  rw [hn]
  exact andDeliver_of_unwired hc hp n (driveSlot_unwired h1 h2 level p)

/-- AND.NOTIFY of a wired kind delivers the AND of the slots as just updated to the target, given that this ends. -/
theorem exec_andNotify_wired (hd : driveSlot c kind level p = some q)
    (hends : ∃ t, andDeliver s.cfg.nAnd s i.toNat kind level = some t) :
    ∃ t, notify (s.withAndp i.toNat q) c.target c.kindOut (andOut q) = some t ∧
      exec (.andNotify i kind level) s = done t := by
  obtain ⟨t, ht⟩ := hends
  refine ⟨t, ?_, exec_andNotify_of_andDeliver hc hp ht⟩
  obtain ⟨n, hn⟩ := exists_nAnd_eq_succ hc
  rw [hn, andDeliver_of_wired hc hp n hd] at ht
  have hle : n ≤ s.cfg.nAnd := hn ▸ Nat.le_succ n
  rw [notify_eq_notifyWithin]
  exact notifyWithin_mono hle ht

/-- On an external target the delivery is one notification (43_logic_primitives R195, 44_signals R222). -/
theorem exec_andNotify_ext {e : Nat} (htarget : c.target = .ext e) (hd : driveSlot c kind level p = some q) :
    exec (.andNotify i kind level) s = done ((s.withAndp i.toNat q).delivered ⟨e, c.kindOut, andOut q⟩) := by
  obtain ⟨n, hn⟩ := exists_nAnd_eq_succ hc
  apply exec_andNotify_of_andDeliver hc hp
  rw [hn, andDeliver_of_wired hc hp n hd, htarget]
  rfl

end

/-- Settles O50: the kind drives no slot. -/
theorem unwiredKindIsLogged : Obligations.UnwiredKindIsLogged := by
  intro i kind level s c p hc hp h1 h2
  exact ⟨decode_eq_of_encode (encode_andNotify_eq i kind level), exec_andNotify_unwired hc hp h1 h2 level, rfl⟩

/-- Settles O51: each of the two kinds drives its own slot, and the external target is told the output. -/
theorem wiredKindSendsTheAnd : Obligations.WiredKindSendsTheAnd := by
  intro i level s c p e hc hp htarget hkinds
  exact ⟨exec_andNotify_ext hc hp htarget (driveSlot_kind1 c level p),
    exec_andNotify_ext hc hp htarget (driveSlot_kind2 hkinds level p)⟩

/-- On checked wiring a delivery to an AndPort that the block has ends (44_signals R223). -/
theorem andDeliver_ends_of_wiringOk {j : Nat} (hwiring : s.cfg.wiringOk = true) (hcount : s.andp.length = s.cfg.nAnd)
    (hj : j < s.cfg.nAnd) (kind : BitVec 5) (level : Bit) :
    ∃ t, andDeliver s.cfg.nAnd s j kind level = some t :=
  andDeliver_ends kind level (List.all_eq_true.mp hwiring j (List.mem_range.mpr hj)) hcount

/-- Settles O53: on checked wiring every delivery ends, and what AND.NOTIFY passes on is a `Notify` of its target. -/
theorem andNotifyFollowsItsRule : Obligations.AndNotifyFollowsItsRule := by
  intro i kind level s c p hwiring hcount hkinds hc hp
  refine ⟨decode_eq_of_encode (encode_andNotify_eq i kind level),
    fun h1 h2 => exec_andNotify_unwired hc hp h1 h2 level, fun q hq => ?wired⟩
  case wired =>
    have hd : driveSlot c kind level p = some q := by
      obtain ⟨rfl, rfl⟩ | ⟨rfl, rfl⟩ := hq
      · exact driveSlot_kind1 c level p
      · exact driveSlot_kind2 hkinds level p
    obtain ⟨hi, -⟩ := List.getElem?_eq_some_iff.mp hc
    exact exec_andNotify_wired hc hp hd (andDeliver_ends_of_wiringOk hwiring hcount hi kind level)

/-! ## The AndPort law -/

theorem eq_true_true_of_andOut (h : andOut q = true) : q = ⟨true, true⟩ := by
  obtain ⟨in1, in2⟩ := q
  obtain ⟨h1, h2⟩ := Bool.and_eq_true_iff.mp h
  exact congrArg₂ AndPort.mk h1 h2

/-- An AndPort with an external target that sends a 1 has both inputs 1 after it (43_logic_primitives R200). -/
theorem both_inputs_of_sent_true {i : BitVec 8} {e : Nat} (hc : s.cfg.andCfg[i.toNat]? = some c)
    (htarget : c.target = .ext e) (h : exec (.andNotify i kind level) s = .next t)
    (hsent : t.out.notify = s.out.notify ++ [⟨e, c.kindOut, true⟩]) : t.andp[i.toNat]? = some ⟨true, true⟩ := by
  obtain ⟨u, hu, rfl⟩ := execAndNotify_next h
  obtain ⟨n, -, p, hn, -, hp⟩ := exists_port_of_andDeliver hu
  rw [hn] at hu
  cases hd : driveSlot c kind level p with
  | none =>
    rw [andDeliver_of_unwired hc hp n hd] at hu
    cases hu
    simp at hsent
  | some q =>
    rw [andDeliver_of_wired hc hp n hd, htarget] at hu
    cases hu
    have hout : andOut q = true := by simpa using hsent
    rw [eq_true_true_of_andOut hout]
    exact getElem?_set_of_some hp _

/-- Settles O56: the two notifications find the slots `(1, 1)` and `(0, 1)` and leave `(0, 1)` both times. -/
theorem andPortLaw : Obligations.AndPortLaw := by
  intro i s c e hc hp htarget hkinds
  refine ⟨?falls, fun u v kind level hcfg h hsent => ?sentTrue⟩
  case falls =>
    have hfirst := exec_andNotify_ext hc hp htarget (driveSlot_kind1 c false ⟨true, true⟩)
    have hsecond := exec_andNotify_ext
      (s := ((s.withAndp i.toNat ⟨false, true⟩).delivered ⟨e, c.kindOut, false⟩).answered none)
      hc (getElem?_set_of_some hp ⟨false, true⟩) htarget (driveSlot_kind2 hkinds true ⟨false, true⟩)
    refine ⟨_, execAll_cons_next.mpr ⟨_, hfirst, execAll_cons_next.mpr ⟨_, hsecond, rfl⟩⟩, ?_⟩
    exact List.append_assoc s.out.notify [⟨e, c.kindOut, false⟩] [⟨e, c.kindOut, false⟩]
  case sentTrue =>
    rw [← hcfg] at hc
    exact both_inputs_of_sent_true hc htarget h hsent

end Sys2Proof.Machine
end

section
/-! SUPPORT. The signal contract (44_signals R221 to R228): which operations send, a delivery within the room that its chain
needs, `Notify`, a round of deliveries, and the check of the wiring as a property of its graph. -/

namespace Sys2Proof.Machine

variable {s u : State} {i : Instr} {kind : SignalKind} {level : Bit}

/-! ## Which operations send -/

/-- An effect that notifies no one and delivers nothing keeps the notifications and the log (44_signals R228). -/
theorem Effect.keeps_sent (he : Effect s i u) (hi : notifies i = false) :
    u.out.notify = s.out.notify ∧ u.out.log = s.out.log := by
  cases he with
  | tick => cases hi
  | andNotify => cases hi
  | _ => exact ⟨rfl, rfl⟩

/-- Settles O22: of the effects, only those of TICK and AND.NOTIFY deliver. -/
theorem onlyTickAndNotifySend : Obligations.OnlyTickAndNotifySend := by
  intro i s t h hi
  obtain ⟨u, r, he, rfl⟩ := exec_performs h
  exact he.keeps_sent hi

/-! ## The room that a delivery needs -/

/-- Settles O52: the chain of targets ends within `N_AND` ports, and room beyond the end is not used. -/
theorem deliveryEndsWithinTheChain : Obligations.DeliveryEndsWithinTheChain := by
  intro s i kind level hwiring hcount hi
  obtain ⟨t, ht⟩ := andDeliver_ends_of_wiringOk hwiring hcount hi kind level
  exact ⟨t, ht, fun fuel hfuel => andDeliver_mono hfuel ht⟩

/-! ## `Notify` and a round of deliveries -/

/-- `Notify` of an AndPort that ends is AND.NOTIFY of it (44_signals R222). -/
theorem exec_andNotify_of_notify {j : BitVec 8} (h : notify s (.andPort j.toNat) kind level = some u) :
    exec (.andNotify j (kindCode kind) level) s = done u := by
  obtain ⟨-, c, p, -, hc, hp⟩ := exists_port_of_andDeliver h
  exact exec_andNotify_of_andDeliver hc hp h

/-- A round over a list and more receivers is the round over the list, complete, and then the rest (44_signals R222). -/
theorem notifyAll_append (kind : SignalKind) (level : Bit) (qs : List Receiver) : ∀ (rs : List Receiver) (s : State),
    notifyAll kind level (rs ++ qs) s = (notifyAll kind level rs s).bind (notifyAll kind level qs)
  | [], _ => rfl
  | r :: rs, s => by
    calc notifyAll kind level (r :: rs ++ qs) s
      _ = (notify s r kind level).bind fun u => notifyAll kind level (rs ++ qs) u := rfl
      _ = (notify s r kind level).bind fun u => (notifyAll kind level rs u).bind (notifyAll kind level qs) := by
        simp only [notifyAll_append kind level qs rs]
      _ = (notifyAll kind level (r :: rs) s).bind (notifyAll kind level qs) := (Option.bind_assoc _ _ _).symm

/-- Settles O54: the clauses of `Notify` and the order of a round. -/
theorem notifyFollowsItsRule : Obligations.NotifyFollowsItsRule := by
  intro kind level s
  refine ⟨fun e => rfl, fun i t h => exec_andNotify_of_notify h, rfl, fun r => notifyAll_singleton kind level r s,
    fun rs qs u hu => ?_⟩
  rw [notifyAll_append, hu, Option.bind_some]

end Sys2Proof.Machine

namespace Sys2Proof

variable {cfg : List AndCfg} {i j k n fuel : Nat}

/-! ## The graph of the wiring -/

/-- Every AndPort that is a target exists (44_signals R221). -/
def TargetsExist (cfg : List AndCfg) : Prop := ∀ i j, hop cfg i = some j → j < cfg.length

/-- No AndPort is reached from itself along one or more targets (44_signals R223). -/
def Acyclic (cfg : List AndCfg) : Prop := ¬∃ i k, hops cfg (k + 1) i = some i

theorem lt_length_of_hop (h : hop cfg i = some j) : i < cfg.length := by
  by_contra hi
  rw [hop, List.getElem?_eq_none (Nat.not_lt.mp hi)] at h
  cases h

theorem hops_add (cfg : List AndCfg) (n : Nat) : ∀ k i, hops cfg (k + n) i = (hops cfg k i).bind (hops cfg n)
  | 0, i => by rw [Nat.zero_add, hops, Option.bind_some]
  | k + 1, i => by
    have htail : hops cfg (k + n) = fun m => (hops cfg k m).bind (hops cfg n) := funext (hops_add cfg n k)
    rw [Nat.add_right_comm, hops, hops, htail, Option.bind_assoc]

theorem hops_lt_length (hexist : TargetsExist cfg) : ∀ {k i : Nat}, i < cfg.length → hops cfg k i = some j →
    j < cfg.length
  | 0, i, hi, h => by
    cases h
    exact hi
  | k + 1, i, _, h => by
    obtain ⟨m, hm, h⟩ := Option.bind_eq_some_iff.mp h
    exact hops_lt_length hexist (hexist i m hm) h

/-- Between two visits of an AndPort on one path lies a cycle. -/
theorem Acyclic.hops_injective (hacyclic : Acyclic cfg) {a b : Nat} (ha : hops cfg a i = some j)
    (hb : hops cfg b i = some j) : a = b := by
  wlog hle : a ≤ b generalizing a b
  · exact (this hb ha (Nat.le_of_not_le hle)).symm
  obtain ⟨d, rfl⟩ := Nat.exists_eq_add_of_le hle
  rw [hops_add, ha, Option.bind_some] at hb
  cases d with
  | zero => rfl
  | succ d => exact absurd ⟨j, d, hb⟩ hacyclic

/-- Without a cycle a path visits each AndPort at most once, so it ends within as many hops as there are AndPorts. -/
theorem Acyclic.hops_length_eq_none (hacyclic : Acyclic cfg) (hexist : TargetsExist cfg) (hi : i < cfg.length) :
    hops cfg cfg.length i = none := by
  by_contra hne
  obtain ⟨last, hlast⟩ := Option.ne_none_iff_exists'.mp hne
  have hvisit : ∀ k : Fin (cfg.length + 1), ∃ m : Fin cfg.length, hops cfg k i = some m.val := by
    intro k
    obtain ⟨d, hd⟩ := Nat.exists_eq_add_of_le (Nat.le_of_lt_succ k.isLt)
    rw [hd, hops_add] at hlast
    obtain ⟨m, hm, -⟩ := Option.bind_eq_some_iff.mp hlast
    exact ⟨⟨m, hops_lt_length hexist hi hm⟩, hm⟩
  choose visit hvisit using hvisit
  obtain ⟨a, b, hab, heq⟩ := Fintype.exists_ne_map_eq_of_card_lt visit (by simp)
  exact hab (Fin.ext (hacyclic.hops_injective (hvisit a) (heq ▸ hvisit b)))

/-! ## The check of the wiring -/

/-- A chain ends within `fuel + 1` ports where its first port exists and what follows ends within `fuel`. -/
theorem chainEnds_succ_iff :
    chainEnds cfg (fuel + 1) i = true ↔ i < cfg.length ∧ ∀ j, hop cfg i = some j → chainEnds cfg fuel j = true := by
  cases hc : cfg[i]? with
  | none =>
    have hi : ¬i < cfg.length := Nat.not_lt.mpr (List.getElem?_eq_none_iff.mp hc)
    simp [chainEnds, hi]
  | some c =>
    obtain ⟨hi, -⟩ := List.getElem?_eq_some_iff.mp hc
    simp only [chainEnds, hop, hc, hi, true_and]
    cases c.target <;> simp

theorem lt_length_of_chainEnds (h : chainEnds cfg fuel i = true) : i < cfg.length := by
  cases fuel with
  | zero => cases h
  | succ fuel =>
    obtain ⟨hi, -⟩ := chainEnds_succ_iff.mp h
    exact hi

/-- Each hop along a chain that ends takes one from the room that the rest of it needs. -/
theorem chainEnds_sub_of_hops : ∀ {k fuel i : Nat}, chainEnds cfg fuel i = true → hops cfg k i = some j →
    chainEnds cfg (fuel - k) j = true
  | 0, fuel, i, h, hk => by
    cases hk
    exact h
  | k + 1, 0, i, h, _ => by cases h
  | k + 1, fuel + 1, i, h, hk => by
    obtain ⟨m, hm, hk⟩ := Option.bind_eq_some_iff.mp hk
    obtain ⟨-, hnext⟩ := chainEnds_succ_iff.mp h
    rw [Nat.add_sub_add_right]
    exact chainEnds_sub_of_hops (hnext m hm) hk

/-- No bound is enough for a chain that runs into a cycle: once around it, and the same chain has less room. -/
theorem not_chainEnds_of_cycle (hcycle : hops cfg (k + 1) i = some i) (fuel : Nat) : chainEnds cfg fuel i ≠ true := by
  induction fuel using Nat.strong_induction_on with
  | _ fuel ih =>
    intro h
    cases fuel with
    | zero => cases h
    | succ fuel => exact ih (fuel + 1 - (k + 1)) (by omega) (chainEnds_sub_of_hops h hcycle)

theorem chainEnds_of_hops_eq_none (hexist : TargetsExist cfg) : ∀ {fuel i : Nat}, i < cfg.length →
    hops cfg fuel i = none → chainEnds cfg fuel i = true
  | 0, _, _, h => by cases h
  | fuel + 1, i, hi, h => by
    refine chainEnds_succ_iff.mpr ⟨hi, fun j hj => ?_⟩
    rw [hops, hj, Option.bind_some] at h
    exact chainEnds_of_hops_eq_none hexist (hexist i j hj) h

theorem Config.wiringOk_iff_chainEnds {c : Config} :
    c.wiringOk = true ↔ ∀ i < c.nAnd, chainEnds c.andCfg c.nAnd i = true := by
  simp [Config.wiringOk]

/-- The check of the wiring is completeness and acyclicity (44_signals R221, R223). -/
theorem Config.wiringOk_iff {c : Config} : c.wiringOk = true ↔ TargetsExist c.andCfg ∧ Acyclic c.andCfg := by
  rw [Config.wiringOk_iff_chainEnds]
  constructor
  · intro hends
    refine ⟨fun i j hij => ?exist, ?acyclic⟩
    case exist =>
      exact lt_length_of_chainEnds (chainEnds_sub_of_hops (k := 1) (hends i (lt_length_of_hop hij))
        (by rw [hops, hij]; rfl))
    case acyclic =>
      rintro ⟨i, k, hcycle⟩
      obtain ⟨j, hj, -⟩ := Option.bind_eq_some_iff.mp hcycle
      exact not_chainEnds_of_cycle hcycle _ (hends i (lt_length_of_hop hj))
  · rintro ⟨hexist, hacyclic⟩ i hi
    exact chainEnds_of_hops_eq_none hexist hi (hacyclic.hops_length_eq_none hexist hi)

/-- Settles O55: a chain with a cycle has no end, and one without visits no AndPort twice. -/
theorem wiringCheckIsAcyclicity : Obligations.WiringCheckIsAcyclicity :=
  fun _ => Config.wiringOk_iff

end Sys2Proof
end

section
/-! SUPPORT. The unsigned conversion helpers (44_signals R225, R226). -/

namespace Sys2Proof.Machine

/-- The signed reading of `w` bits, taken modulo `2 ^ w`, is their unsigned reading. -/
theorem toNat_toInt_emod {w : Nat} (b : BitVec w) : (b.toInt % (2 ^ w : Nat)).toNat = b.toNat := by
  rw [BitVec.toInt_eq_toNat_bmod, Int.bmod_emod, ← Int.natCast_mod, Int.toNat_natCast, Nat.mod_eq_of_lt b.isLt]

/-- Settles O60: the helpers are reductions modulo `2 ^ 8` and `2 ^ 16`; a CPU load result widens its byte with zeros. -/
theorem unsignedHelpers : Obligations.UnsignedHelpers := by
  have hu8 : ∀ b : BitVec 8, u8 b.toInt = b.toNat := toNat_toInt_emod
  have hu16 : ∀ w : BitVec 16, u16 w.toInt = w.toNat := toNat_toInt_emod
  have hcpu : ∀ b : Byte, (cpuResult b).toNat = b.toNat :=
    fun _ => BitVec.toNat_setWidth_of_le (by decide)
  exact ⟨hu8, hu16, rfl, rfl, rfl, rfl, rfl, rfl, rfl, hcpu, rfl⟩

end Sys2Proof.Machine
end

section
/-! SUPPORT. Classes of operations (45_operation_classes R301, R305): the bus operations run on their own components of the
state and on nothing else, and an inversion is undone by a second one. -/

namespace Sys2Proof.Machine

/-! ## The operations of the bus -/

/-- `s` with the components that no bus operation uses taken from `r`: the barrier, the clock, the logic primitives and
the draw counter (45_operation_classes R305, 43_logic_primitives R198). -/
def State.withRestOf (s r : State) : State :=
  { r with cfg := s.cfg, bus := s.bus, platform := s.platform, out := s.out, port := s.port }

/-- An answer with that replacement made in its next state, if it has one. -/
def Result.withRestOf (r : State) : Result → Result
  | .next t => .next (t.withRestOf r)
  | .fault f => .fault f
  | .refused e => .refused e

@[simp] theorem State.withRestOf_cfg (s r : State) : (s.withRestOf r).cfg = s.cfg := rfl
@[simp] theorem State.withRestOf_bus (s r : State) : (s.withRestOf r).bus = s.bus := rfl
@[simp] theorem State.withRestOf_self (s : State) : s.withRestOf s = s := rfl

/-- Between states with the same parameters, four components are taken over. -/
theorem State.withRestOf_of_cfg {s r : State} (h : s.cfg = r.cfg) : s.withRestOf r =
    { r with bus := s.bus, platform := s.platform, out := s.out, port := s.port } := by
  rw [State.withRestOf, h]

variable (s r : State)

/-- Which case of STORE applies depends on the bus alone (42_bus R161, R167). -/
theorem execStore_withRestOf (addr : Addr) (v : Byte) (view : View) (aec : Bit) :
    execStore addr v view aec (s.withRestOf r) = Result.withRestOf r (execStore addr v view aec s) := by
  simp only [execStore, State.withRestOf_bus]
  split
  · split <;> rfl
  · rfl

/-- Which case of LOAD applies depends on the bus alone (42_bus R162, R167). -/
theorem execLoad_withRestOf (addr : Addr) (view : View) (aec : Bit) :
    execLoad addr view aec (s.withRestOf r) = Result.withRestOf r (execLoad addr view aec s) := by
  simp only [execLoad, State.withRestOf_bus]
  split
  · split <;> rfl
  · rfl

/-- What SETCPU looks up depends on the parameters alone (42_bus R164). -/
theorem execSetcpu_withRestOf (idRd idWr : BitVec 8) :
    execSetcpu idRd idWr (s.withRestOf r) = Result.withRestOf r (execSetcpu idRd idWr s) := by
  simp only [execSetcpu, State.withRestOf_cfg]
  split <;> rfl

/-- What SETVIC looks up depends on the parameters alone (42_bus R165). -/
theorem execSetvic_withRestOf (id : BitVec 8) :
    execSetvic id (s.withRestOf r) = Result.withRestOf r (execSetvic id s) := by
  simp only [execSetvic, State.withRestOf_cfg]
  split <;> rfl

/-- What SETCOLOR looks up depends on the parameters alone (42_bus R166). -/
theorem execSetcolor_withRestOf (id : BitVec 8) :
    execSetcolor id (s.withRestOf r) = Result.withRestOf r (execSetcolor id s) := by
  simp only [execSetcolor, State.withRestOf_cfg]
  split <;> rfl

/-- A bus operation answers the same whatever the rest of the state is, and carries the rest through. -/
theorem exec_withRestOf {i : Instr} (hi : isBusOp i = true) :
    exec i (s.withRestOf r) = Result.withRestOf r (exec i s) := by
  cases i with
  | store addr v view aec => exact execStore_withRestOf s r addr v view aec
  | load addr view aec => exact execLoad_withRestOf s r addr view aec
  | isinit => rfl
  | setcpu idRd idWr => exact execSetcpu_withRestOf s r idRd idWr
  | setvic id => exact execSetvic_withRestOf s r id
  | setcolor id => exact execSetcolor_withRestOf s r id
  | _ => cases hi

/-- Settles O24: on `s'`, which is `s` with the rest of `s'`, the operation answers `t` with the rest of `s'`; `s` itself
is `s` with its own rest, so `t` has the rest of `s`. -/
theorem busOperationsIgnoreTheRest : Obligations.BusOperationsIgnoreTheRest := by
  intro i s s' t hi hcfg hbus hplatform hout hport h
  have hrest (r : State) : exec i (s.withRestOf r) = .next (t.withRestOf r) := by
    rw [exec_withRestOf s r hi, h]
    rfl
  have hs' : s.withRestOf s' = s' := by
    rw [State.withRestOf, ← hcfg, ← hbus, ← hplatform, ← hout, ← hport]
  have htcfg : t.cfg = s'.cfg := by
    obtain ⟨u, _, he, rfl⟩ := exec_performs h
    exact he.keeps_params.1.trans hcfg.symm
  have hown : t = t.withRestOf s := by
    have hself := hrest s
    rw [State.withRestOf_self, h] at hself
    exact Host.Outcome.next.inj hself
  constructor
  · rw [← State.withRestOf_of_cfg htcfg, ← hrest s', hs']
  · rw [hown]
    exact ⟨rfl, rfl, rfl, rfl, rfl, rfl, rfl, rfl⟩

/-! ## Inverting twice -/

/-- An element that is replaced and then put back leaves the list as it was. -/
theorem set_set_of_some {α : Type} {l : List α} {n : Nat} {x : α} (h : l[n]? = some x) (y : α) :
    (l.set n y).set n x = l := by
  obtain ⟨hn, rfl⟩ := List.getElem?_eq_some_iff.mp h
  rw [List.set_set, List.set_getElem_self]

variable {s} {i : BitVec 8}

theorem exec_ffInv {f : FlipFlop} (hf : s.ff[i.toNat]? = some f) :
    exec (.ffInv i) s = done (s.withFf i.toNat ⟨!f.state⟩) :=
  onFlipFlop_of_some hf _

theorem exec_dffInv {f : DelayFlipFlop} (hf : s.dff[i.toNat]? = some f) :
    exec (.dffInv i) s = done (s.withDff i.toNat { f with inputState := !f.inputState }) :=
  onDelayFlipFlop_of_some hf _

/-- Settles O49: the second inversion finds the element that the first wrote and puts the first one back. -/
theorem invertTwiceRestores : Obligations.InvertTwiceRestores := by
  intro i s
  refine ⟨fun f hf => ?flipFlop, fun f hf => ?delayFlipFlop⟩
  case flipFlop =>
    have hagain := exec_ffInv (s := (s.withFf i.toNat ⟨!f.state⟩).answered none) (getElem?_set_of_some hf _)
    rw [Bool.not_not] at hagain
    exact ⟨_, execAll_cons_next.mpr ⟨_, exec_ffInv hf, execAll_cons_next.mpr ⟨_, hagain, rfl⟩⟩,
      set_set_of_some hf _⟩
  case delayFlipFlop =>
    have hagain := exec_dffInv (s := (s.withDff i.toNat { f with inputState := !f.inputState }).answered none)
      (getElem?_set_of_some hf _)
    rw [Bool.not_not] at hagain
    exact ⟨_, execAll_cons_next.mpr ⟨_, exec_dffInv hf, execAll_cons_next.mpr ⟨_, hagain, rfl⟩⟩,
      set_set_of_some hf _⟩

end Sys2Proof.Machine
end

section
/-! SUPPORT. The outcomes of a request (60_exceptions R240): what the port may answer, and what a newly recorded fault
holds. -/

namespace Sys2Proof.Machine

variable {s t u : State} {i : Instr} {r : Result}

/-! ## The answers of the port -/

/-- A next state, or a refusal for one of the reasons that have a code (60_exceptions R244). -/
def IsPortAnswer : Result → Prop
  | .next _ => True
  | .fault _ => False
  | .refused reason => (refusalCode reason).isSome = true

theorem isPortAnswer_done (s : State) : IsPortAnswer (done s) := trivial
theorem isPortAnswer_reply (v : Word16) (s : State) : IsPortAnswer (reply v s) := trivial

theorem Completes.isPortAnswer (h : Completes r) : IsPortAnswer r := by
  obtain ⟨t, rfl⟩ := h
  trivial

theorem IsPortAnswer.ne_fault (h : IsPortAnswer r) (f : Fault) : r ≠ .fault f := by
  rintro rfl
  exact h

/-- The refusals that the port may answer are the five reasons, of codes 1 to 5 (60_exceptions R244). -/
theorem IsPortAnswer.reason_cases {reason : Refusal} (h : IsPortAnswer (.refused reason)) :
    (reason = .illegalRequest ∧ refusalCode reason = some 1) ∨
    (reason = .noSuchAgent ∧ refusalCode reason = some 2) ∨
    (reason = .noSuchInstance ∧ refusalCode reason = some 3) ∨
    (reason = .noSuchBankEntry ∧ refusalCode reason = some 4) ∨
    (reason = .agentBlocked ∧ refusalCode reason = some 5) := by
  cases reason with
  | badConfiguration => cases h
  | notModelled => cases h
  | _ => simp [refusalCode]

/-! ## Operations that send nothing -/

/-- The checks of a caller refuse as NoSuchAgent or as AgentBlocked (30_encoding R99). -/
theorem fromAgent_isPortAnswer {a : BitVec 8} {k : State → Result} (hk : ∀ u, IsPortAnswer (k u)) :
    IsPortAnswer (fromAgent a s k) := by
  unfold fromAgent
  split
  · rfl
  · split
    · rfl
    · exact hk s

/-- What looks up a primitive or a bank entry and is refused where there is none (30_encoding R99). -/
theorem isPortAnswer_of_lookup {α : Type} {found : Option α} {absent : Refusal} {k : α → Result}
    (hcode : (refusalCode absent).isSome = true) (hsome : ∀ x, found = some x → r = k x)
    (hnone : found = none → r = .refused absent) (hk : ∀ x, IsPortAnswer (k x)) : IsPortAnswer r := by
  cases hfound : found with
  | none =>
    rw [hnone hfound]
    exact hcode
  | some x =>
    rw [hsome x hfound]
    exact hk x

section
variable (j : BitVec 8)

theorem onCounter_isPortAnswer {k : Counter → Result} (hk : ∀ x, IsPortAnswer (k x)) :
    IsPortAnswer (onCounter j s k) :=
  isPortAnswer_of_lookup rfl (fun _ hx => onCounter_of_some hx k)
    (fun hnone => onCounter_absent (List.getElem?_eq_none_iff.mp hnone) k) hk

theorem onFlipFlop_isPortAnswer {k : FlipFlop → Result} (hk : ∀ x, IsPortAnswer (k x)) :
    IsPortAnswer (onFlipFlop j s k) :=
  isPortAnswer_of_lookup rfl (fun _ hx => onFlipFlop_of_some hx k)
    (fun hnone => onFlipFlop_absent (List.getElem?_eq_none_iff.mp hnone) k) hk

theorem onDelayFlipFlop_isPortAnswer {k : DelayFlipFlop → Result} (hk : ∀ x, IsPortAnswer (k x)) :
    IsPortAnswer (onDelayFlipFlop j s k) :=
  isPortAnswer_of_lookup rfl (fun _ hx => onDelayFlipFlop_of_some hx k)
    (fun hnone => onDelayFlipFlop_absent (List.getElem?_eq_none_iff.mp hnone) k) hk

theorem onWireAnd_isPortAnswer {k : WireAnd → Result} (hk : ∀ x, IsPortAnswer (k x)) :
    IsPortAnswer (onWireAnd j s k) :=
  isPortAnswer_of_lookup rfl (fun _ hx => onWireAnd_of_some hx k)
    (fun hnone => onWireAnd_absent (List.getElem?_eq_none_iff.mp hnone) k) hk

theorem execTodreg_isPortAnswer : IsPortAnswer (execTodreg j s) :=
  isPortAnswer_of_lookup rfl (fun _ => execTodreg_of_entry) execTodreg_of_absent fun _ => isPortAnswer_done _

theorem execSetvic_isPortAnswer : IsPortAnswer (execSetvic j s) :=
  isPortAnswer_of_lookup rfl (fun _ => execSetvic_of_entry) execSetvic_of_absent fun _ => isPortAnswer_done _

theorem execSetcolor_isPortAnswer : IsPortAnswer (execSetcolor j s) :=
  isPortAnswer_of_lookup rfl (fun _ => execSetcolor_of_entry) execSetcolor_of_absent fun _ => isPortAnswer_done _

end

theorem execSetcpu_isPortAnswer (rd wr : BitVec 8) : IsPortAnswer (execSetcpu rd wr s) := by
  unfold execSetcpu
  split
  · exact isPortAnswer_done _
  · rfl

/-- CTR.WHI and CTR.CLK complete whether the Counter decrements or not. -/
theorem isPortAnswer_ite_done (p : Prop) [Decidable p] (x y : State) : IsPortAnswer (if p then done x else done y) :=
  (completes_ite (completes_done x) (completes_done y)).isPortAnswer

/-- In every state, an operation that starts no delivery completes or is refused by a range check (30_encoding R99). -/
theorem exec_isPortAnswer_of_silent (hi : notifies i = false) (s : State) : IsPortAnswer (exec i s) := by
  cases i with
  | tick => cases hi
  | andNotify j kind level => cases hi
  | announce a => exact fromAgent_isPortAnswer fun _ => isPortAnswer_done _
  | wait a => exact fromAgent_isPortAnswer fun _ => isPortAnswer_done _
  | release | start | stop | setrate => exact isPortAnswer_done _
  | allfin | getrate | isinit => exact isPortAnswer_reply _ _
  | todreg id => exact execTodreg_isPortAnswer id
  | store addr v view aec => exact (execStore_completes addr v view aec).isPortAnswer
  | load addr view aec => exact (execLoad_completes addr view aec).isPortAnswer
  | setcpu rd wr => exact execSetcpu_isPortAnswer rd wr
  | setvic id => exact execSetvic_isPortAnswer id
  | setcolor id => exact execSetcolor_isPortAnswer id
  | ctrWlo j | ctrDec j => exact onCounter_isPortAnswer j fun _ => isPortAnswer_done _
  | ctrWhi j | ctrClk j => exact onCounter_isPortAnswer j fun _ => isPortAnswer_ite_done _ _ _
  | ctrZero j | ctrRead j => exact onCounter_isPortAnswer j fun _ => isPortAnswer_reply _ _
  | ffSet j | ffRst j | ffInv j => exact onFlipFlop_isPortAnswer j fun _ => isPortAnswer_done _
  | ffGet j => exact onFlipFlop_isPortAnswer j fun _ => isPortAnswer_reply _ _
  | dffSet j | dffRst j | dffInv j | dffClk j => exact onDelayFlipFlop_isPortAnswer j fun _ => isPortAnswer_done _
  | dffGet j => exact onDelayFlipFlop_isPortAnswer j fun _ => isPortAnswer_reply _ _
  | wandSet j => exact onWireAnd_isPortAnswer j fun _ => isPortAnswer_done _
  | wandGet j => exact onWireAnd_isPortAnswer j fun _ => isPortAnswer_reply _ _

/-! ## Every operation -/

/-- On a constructed block an AND.NOTIFY is refused only for an AndPort that the block does not have. -/
theorem State.Inv.execAndNotify_isPortAnswer (h : s.Inv) (j : BitVec 8) (kind : BitVec 5) (level : Bit) :
    IsPortAnswer (execAndNotify j kind level s) := by
  by_cases hj : j.toNat < s.cfg.nAnd
  · exact ((h.execAndNotify_completes kind level).mpr (decide_eq_true hj)).isPortAnswer
  · have habsent : s.andp.length ≤ j.toNat := h.andCount ▸ Nat.le_of_not_lt hj
    rw [execAndNotify_absent habsent]
    rfl

/-- On a constructed block no operation is refused for a wiring that does not end. -/
theorem State.Inv.exec_isPortAnswer (h : s.Inv) (i : Instr) : IsPortAnswer (exec i s) := by
  cases hi : notifies i with
  | false => exact exec_isPortAnswer_of_silent hi s
  | true =>
    cases i with
    | tick => exact h.execTick_completes.isPortAnswer
    | andNotify j kind level => exact h.execAndNotify_isPortAnswer j kind level
    | _ => cases hi

theorem execTick_ne_fault (s : State) (f : Fault) : execTick s ≠ .fault f := by
  unfold execTick
  split
  · split <;> nofun
  · nofun

theorem execAndNotify_ne_fault (j : BitVec 8) (kind : BitVec 5) (level : Bit) (s : State) (f : Fault) :
    execAndNotify j kind level s ≠ .fault f := by
  unfold execAndNotify
  split
  · split <;> nofun
  · nofun

/-- In every state, whatever its wiring, no operation stops in a fault (60_exceptions R242, R250). -/
theorem exec_ne_fault (i : Instr) (s : State) (f : Fault) : exec i s ≠ .fault f := by
  cases hi : notifies i with
  | false => exact (exec_isPortAnswer_of_silent hi s).ne_fault f
  | true =>
    cases i with
    | tick => exact execTick_ne_fault s f
    | andNotify j kind level => exact execAndNotify_ne_fault j kind level s f
    | _ => cases hi

/-! ## Every step -/

theorem refuseBlocked_isPortAnswer (i : Instr) (s : State) : IsPortAnswer (refuseBlocked i s) := by
  obtain hr | hr := refuseBlocked_refused i s <;> rw [hr] <;> rfl

/-- A step is answered by the port itself, or it performs the operation of the request that it serves. -/
theorem step_isPortAnswer_or_exec (s : State) :
    IsPortAnswer (step s) ∨ ∃ q rest i, step s = exec i (s.serving q rest) := by
  cases hnext : nextRequest s.bar.blocked s.port.requests with
  | none =>
    rw [step_of_idle hnext]
    exact .inl trivial
  | some served =>
    obtain ⟨q, rest⟩ := served
    cases hd : decode q.word with
    | error e =>
      rw [step_of_illegal hnext hd]
      exact .inl rfl
    | ok i =>
      cases hmay : mayStep s.bar.blocked q.issuer with
      | true => exact .inr ⟨q, rest, i, step_of_decode hnext hd hmay⟩
      | false =>
        rw [step_of_blocked hnext hd hmay]
        exact .inl (refuseBlocked_isPortAnswer i s)

/-- Settles O10: serving a request keeps the invariant, under which every operation gives an answer of the port. -/
theorem refusalsAreThoseOfThePort : Obligations.RefusalsAreThoseOfThePort := by
  intro s reason hinv h
  have hanswer : IsPortAnswer (step s) := by
    obtain hs | ⟨q, rest, i, hs⟩ := step_isPortAnswer_or_exec s
    · exact hs
    · rw [hs]
      exact (hinv.serving q rest).exec_isPortAnswer i
  rw [h] at hanswer
  exact hanswer.reason_cases

/-- Settles O11: neither the port nor any operation answers a fault, in any state. -/
theorem noStepStopsInFault : Obligations.NoStepStopsInFault := by
  intro s f
  obtain hs | ⟨q, rest, i, hs⟩ := step_isPortAnswer_or_exec s
  · exact hs.ne_fault f
  · rw [hs]
    exact exec_ne_fault i _ f

/-! ## A newly recorded fault -/

/-- Only an access to an uninitialised bus changes `out.fault`, and only where none was recorded before (R241). -/
theorem Effect.recorded_fault (he : Effect s i u) (hne : u.out.fault ≠ s.out.fault) :
    isAccess i = true ∧ isInitialized s.bus = false ∧ u.out.fault = some ⟨.busNotInitialized, encode i⟩ := by
  cases he with
  | fault hi hb =>
    refine ⟨hi, hb, ?_⟩
    cases hf : s.out.fault with
    | none => rfl
    | some f => simp [hf] at hne
  | tick hu => exact absurd (tickPass_delivers hu).fault hne
  | andNotify hu => exact absurd (andDeliver_delivers hu).fault hne
  | _ => exact absurd rfl hne

/-- Settles O19: the record holds the encoding of the operation served, and that is the word that decoded to it. -/
theorem faultRecordsTheServedWord : Obligations.FaultRecordsTheServedWord := by
  intro s t q rest hnext h hne
  obtain ⟨hidle, -⟩ | ⟨q', rest', i, hnext', hd, -, hi⟩ := step_next h
  · rw [hidle] at hnext
    cases hnext
  · obtain ⟨rfl, rfl⟩ : q = q' ∧ rest = rest' := by simpa [hnext] using hnext'
    obtain ⟨u, _, he, rfl⟩ := exec_performs hi
    obtain ⟨haccess, hbus, hfault⟩ := he.recorded_fault hne
    rw [encodeDecodeRoundTrip q.word i hd] at hfault
    exact ⟨hfault, rfl, hbus, i, hd, haccess⟩

end Sys2Proof.Machine
end

section
/-! SUPPORT. Construction (70_reset R270): the configurations of the block in the spec's words, and what `construct` answers. -/

namespace Sys2Proof

/-- External receivers always exist, so a list of receivers is complete when the AndPorts in it are (44_signals R221). -/
theorem Config.hasReceivers_iff {c : Config} {rs : List Receiver} :
    (∀ r ∈ rs, c.hasReceiver r = true) ↔ ∀ i, .andPort i ∈ rs → i < c.andCfg.length := by
  constructor
  · intro h i hi
    exact of_decide_eq_true (h (.andPort i) hi)
  · intro h r hr
    cases r with
    | ext e => rfl
    | andPort i => exact decide_eq_true (h i hr)

/-- `Config.wf_iff` with the two checks of the AndPort graph, the wiring and the receiver lists, as the spec states them
(00_scope R8, R9; 10_state R39; 44_signals R221, R223). -/
theorem Config.wf_iff_graph {c : Config} : c.wf = true ↔
    (1 ≤ c.nAgents ∧ c.nAgents ≤ 256) ∧
    (c.nCtr ≤ 256 ∧ c.nFf ≤ 256 ∧ c.nDff ≤ 256 ∧ c.andCfg.length ≤ 256 ∧ c.nWand ≤ 256) ∧
    (2 ≤ c.todReload ∧ c.todReload % 2 = 0) ∧
    (∀ a ∈ c.andCfg, a.kind1 ≠ a.kind2) ∧ TargetsExist c.andCfg ∧ Acyclic c.andCfg ∧
    (∀ e ∈ c.targetBank, ∀ i, .andPort i ∈ e.2 → i < c.andCfg.length) ∧ Machine.Memory.wf c.storageInit = true := by
  simp only [Config.wf_iff, Config.wiringOk_iff, Config.hasReceivers_iff, Config.nAnd, and_assoc]

end Sys2Proof

namespace Sys2Proof.Machine

variable {c : Config}

theorem construct_of_wf (hc : c.wf = true) : construct c = .ok (State.resetWith c) := if_pos hc

theorem construct_of_not_wf (hc : ¬c.wf = true) : construct c = .error .badConfiguration := if_neg hc

/-- Construction answers the reset state exactly for the configurations of the block (70_reset R270). -/
theorem construct_eq_ok_iff : construct c = .ok (State.resetWith c) ↔ c.wf = true := by
  refine ⟨fun hok => ?_, construct_of_wf⟩
  by_contra hc
  rw [construct_of_not_wf hc] at hok
  cases hok

/-- Settles O14: construction decides `Config.wf`, which is the spec's list of conditions and gives `Inv` at reset. -/
theorem constructionGivesTheInvariant : Obligations.ConstructionGivesTheInvariant := by
  intro c
  rw [ne_eq, construct_eq_ok_iff]
  exact ⟨Config.wf_iff_graph, inv_resetWith, construct_of_not_wf⟩

end Sys2Proof.Machine
end
